-- ==== Sys2Proof/Word.lean ====
section
/-! DEFINITION. The words of the machine: bytes, drop totals, serials, keys, nonces and the numbers of bays,
channels, segments and sides (00_scope.md, Conventions). -/

namespace Sys2Proof

/-- One byte on the host link or on a bay-bus segment. -/
abbrev Byte := BitVec 8

/-- A 32-bit word of the check function (R51) or a cumulative drop total (R68). -/
abbrev Word32 := BitVec 32

/-- A cartridge serial, a check-function output, a tag (R47 to R62). -/
abbrev Word64 := BitVec 64

/-- A master key or a cartridge key (R47, R53). -/
abbrev Key := BitVec 128

/-- A nonce (R54). -/
abbrev Nonce := BitVec 48

/-- A bay index, 0 to 23 (R2). -/
abbrev BayId := Fin 24

/-- A channel number, 0 to 11 (R94). -/
abbrev ChanId := Fin 12

/-- An entry slot of the retained store, 0 to 63 (R133). -/
abbrev SlotId := Fin 64

/-- The two segments of the bay bus. -/
inductive Segment where
  | l
  | r
  deriving DecidableEq, Repr

/-- The two sides of a channel, and the two valve positions. -/
inductive Side where
  | a
  | b
  deriving DecidableEq, Repr

end Sys2Proof
end

