-- ==== Sys2Proof/Config.lean ====
section
/-! DEFINITION. What is fixed for the machine: times in microseconds, capacities, limits, and the free values
that the spec leaves open (opaque: nothing can be proved of their values). -/

namespace Sys2Proof.Config

/-- Presence debounce hold time, 50 ms (R5). -/
def debounceUs : Nat := 50000
/-- Settle time, 200 ms (R6). -/
def settleUs : Nat := 200000
/-- Relink interval, 5 s (R16). -/
def relinkUs : Nat := 5000000
/-- Power-fail warning hold time, 1 ms (R173). -/
def pfDebounceUs : Nat := 1000
/-- Reply window, 2 ms (R28). -/
def replyWindowUs : Nat := 2000
/-- Silence that completes a reply short, 200 microseconds (R28). -/
def replyGapUs : Nat := 200
/-- One bay-bus byte: 8 bits at 250 kbit/s (R180). -/
def busByteUs : Nat := 32
/-- Silence that abandons a host-link frame, 2 ms (R151). -/
def linkGapUs : Nat := 2000
/-- A split write's deadline stands this much after its write busy time, 20 ms (R38). -/
def deadlineSlackUs : Nat := 20000
/-- The poll after a BUSY poll falls due 1 ms later (R39). -/
def pollAgainUs : Nat := 1000
/-- Nanolitres in a millilitre. -/
def nlPerMl : Nat := 1000000
/-- Units of 0.01 pl in a nanolitre (R78). -/
def unitsPerNl : Nat := 100000
/-- Values in a challenge block (R54). -/
def challengeBlock : Nat := 4096
/-- The end of the challenge counter's range (R54, R57). -/
def challengeEnd : Nat := 2 ^ 48
/-- Greatest value of a saturating 48-bit volume (R137, R140). -/
def max48 : Nat := 2 ^ 48 - 1
/-- Greatest value of a saturating 32-bit volume (R80). -/
def max32 : Nat := 2 ^ 32 - 1
/-- Requests the intake holds (R153). -/
def intakeCapacity : Nat := 4
/-- Places of the reply buffer (R155). -/
def replyPlaces : Nat := 5
/-- Notices the notice queue holds (R157). -/
def noticeCapacity : Nat := 8
/-- Reports the metering intake queue holds (R69). -/
def meterCapacity : Nat := 16
/-- Entries the seen table holds (R133). -/
def tableCapacity : Nat := 64
/-- Greatest payload of a host-link frame (R177). -/
def maxPayload : Nat := 240
/-- Age limit after reset, in ms (R37). -/
def resetAgeLimit : Nat := 500
/-- Doubt threshold after reset (R116). -/
def resetDoubt : Nat := 8
/-- Refill threshold after reset (R116). -/
def resetRefill : Nat := 32

/-- FREE VALUE (log 11). Whether a save that a reset cuts had already reached the store: R48, R55 and R148 leave
either outcome. Applied to State.freeCount. -/
opaque cutSaveLanded : Nat → Bool

/-- FREE VALUE (log 50). The levels of the strap pins RATESEL1 and RATESEL0 as a start-up samples them (R150): they
come from outside the part, and no command of the table carries them. Applied to State.freeCount. -/
opaque strapLevels : Nat → BitVec 2

/-- FREE VALUE (log 54). The write busy time, less 1, in ms of a write frame accepted on a bay that holds no identity:
R38 takes it from the identity, and R4 keeps it in 1 to 50. Applied to the bay index and the time of acceptance. -/
opaque unstatedBusy : Nat → Nat → Fin 50

/-- FREE VALUE (log 12). What a 48-bit volume holds when the exact sum it is to take does not fit and no rule
makes it saturate. Applied to the exact sum. -/
opaque overflow48 : Nat → BitVec 48

end Sys2Proof.Config
end

