-- ==== Sys2Proof/Syntax.lean ====
section
/-! DEFINITION. The commands of the block: one constructor for each row of spec/opcode_table.json, with the
operands that log 4 names. A request row carries none: it executes the oldest request of the intake (R154). -/

namespace Sys2Proof

/-- A complete host-link frame after its start byte (R177): the length byte is the payload's length. -/
structure HostFrame where
  kind : Byte
  tag : Byte
  payload : List Byte
  crc : BitVec 16
  deriving DecidableEq, Repr

/-- The commands, in the table's order. -/
inductive Instr where
  /-- R5: the raw presence input of a bay takes the level `high`. -/
  | presenceInputChange (bay : BayId) (high : Bool)
  /-- R5: a bay's presence debounce timer expires. -/
  | presenceDebounceExpiry (bay : BayId)
  /-- R7: a bay's settle timer expires. -/
  | settleTimerExpiry (bay : BayId)
  /-- R8: a bay's relink timer expires. -/
  | relinkTimerExpiry (bay : BayId)
  /-- R19: a bay's outlet-probe signal moves to `signal`, in 1/65536 of the supply. -/
  | probeReadingChange (bay : BayId) (signal : BitVec 16)
  /-- R19: a bay's probe filter timer expires. -/
  | probeFilterExpiry (bay : BayId)
  /-- R82: a bay's write-back timer expires. -/
  | writeBackTimerExpiry (bay : BayId)
  /-- R104: a channel's valve switch timer expires. -/
  | valveSwitchTimerExpiry (chan : ChanId)
  /-- R37: a segment's arbiter takes an entry. -/
  | arbiterTake (seg : Segment)
  /-- R28: the last byte of the frame on a segment is sent. -/
  | busFrameEnd (seg : Segment)
  /-- R29: a reply frame completes on a segment. -/
  | busReplyTaken (seg : Segment) (bytes : List Byte)
  /-- R28: a reply stops short after `bytes`. -/
  | busReplyGapTimeout (seg : Segment) (bytes : List Byte)
  /-- R28: the reply window of a segment expires. -/
  | busReplyWindowTimeout (seg : Segment)
  /-- R38: the next poll of a bay's split write falls due. -/
  | pollDue (bay : BayId)
  /-- R39: the deadline of a bay's split write passes. -/
  | splitWriteDeadline (bay : BayId)
  /-- R152: a complete host-link frame arrives, as a whole. -/
  | frameReceived (frame : HostFrame)
  /-- R150: a character with a low stop bit arrives. -/
  | linkFramingError
  /-- R151: more than 2 ms pass inside a frame. -/
  | linkGapTimeout
  /-- R73: the Metering Unit takes the next drop-report entry. -/
  | takeDropEntry
  /-- R162. -/
  | partStatus
  /-- R161, R121. -/
  | setPart
  /-- R96 to R99. -/
  | configureChannel
  /-- R113. -/
  | channelQuery
  /-- R163. -/
  | bayQuery
  /-- R110. -/
  | hold
  /-- R111. -/
  | release
  /-- R48. -/
  | loadKey
  /-- R49. -/
  | lockKeys
  /-- R50. -/
  | keyCheck
  /-- R164. -/
  | cartRead
  /-- R165. -/
  | cartWrite
  /-- R147. -/
  | historyRead
  /-- R148. -/
  | historyForget
  /-- R167. -/
  | countersRead
  /-- R171. -/
  | flush
  /-- R172. -/
  | restart
  /-- R156: the last byte of a host-link frame is sent. -/
  | linkFrameSent
  /-- R168. -/
  | powerOn
  /-- R168. -/
  | brownout
  /-- R168. -/
  | pinReset
  /-- R169: no cause holds the reset any longer. -/
  | resetEnd
  /-- R146, R169. -/
  | storeScanComplete
  /-- R142. -/
  | storeSaveBegin
  /-- R143. -/
  | storeSaveComplete
  /-- R173: the raw power-fail warning takes the level `asserted`. -/
  | pfwarnInputChange (asserted : Bool)
  /-- R173: the power-fail warning's debounce timer expires. -/
  | pfwarnDebounceExpiry
  /-- R151: a byte is received on the host link. -/
  | receivedByte (byte : Byte)
  deriving DecidableEq, Repr

end Sys2Proof
end

