-- ==== Sys2Proof/WellFormed.lean ====
section
/-! DEFINITION. Which commands are well formed: the bounds the spec puts on the bytes a command carries. Bay,
channel and segment operands are in range by their types. An ill-formed command still has a next state (R151
abandons an overlong frame; R28 discards a reply that does not match). -/

namespace Sys2Proof

/-- The longest bay-bus reply frame: the 25 bytes of an IDENT DONE (R180). -/
def maxReply : Nat := 25

/-- A well-formed command: a host-link frame of at most 240 payload bytes (R177); a complete reply of 4 to 25
bytes (R180); a reply cut short holds at least one byte (R28). -/
def Instr.wf : Instr → Bool
  | .frameReceived f => f.payload.length ≤ Config.maxPayload
  | .busReplyTaken _ bytes => 4 ≤ bytes.length && bytes.length ≤ maxReply
  | .busReplyGapTimeout _ bytes => 1 ≤ bytes.length
  | _ => true

end Sys2Proof
end

