-- ==== Sys2Proof/Machine/State.lean ====
section
/-! DEFINITION. The machine's state: everything the spec gives the part, as plain data, and its value after reset.
Volumes in nanolitres, counters and times are Nat (their widths are kept by the operations and stated as
invariants); codes, serials, keys, totals and sequence numbers are bit vectors. -/

namespace Sys2Proof.Machine

/-! ## Bays (R2) -/

inductive BayState where
  | empty | settling | present | linking | ready | active | spent | refused | lost
  deriving DecidableEq, Repr

/-- The link-up steps 1 to 5 (R9, R10, R12, R13, R14). -/
inductive LinkStep where
  | setCode | ident | challenge | reconcile | mark
  deriving DecidableEq, Repr

inductive RefusalReason where
  | wrongColour | rejected | unverifiable | refilled | duplicateSerial
  deriving DecidableEq, Repr

inductive ProbeState where
  | unknown | inkPresent | inkAbsent
  deriving DecidableEq, Repr

inductive AuthState where
  | none | challenging | genuine | rejected | unverifiable
  deriving DecidableEq, Repr

inductive Verdict where
  | clean | doubt | refilled
  deriving DecidableEq, Repr

/-- The bus outcomes of R2 and R42. -/
inductive BusOutcome where
  | ok | noReply | malformed | refused | failed | busyTimeout | removed
  deriving DecidableEq, Repr

/-- The identity record of a cartridge (R1, R180). -/
structure Identity where
  serial : Word64
  colour : Byte
  keyGen : BitVec 2
  nominalMl : BitVec 16
  writeBusy : Byte
  week : BitVec 16
  deriving DecidableEq, Repr

/-- What IDENT returned beside the identity (R2). -/
structure Observed where
  counter : BitVec 40
  mark : Bool
  deriving DecidableEq, Repr

/-- An event counter with its half-scale flag (R166). -/
structure Counter where
  value : Nat
  half : Bool
  deriving DecidableEq, Repr

/-- A challenge exchange in progress (R58). -/
inductive Exchange3 where
  | none | linkup | recheck
  deriving DecidableEq, Repr

/-- The Check Unit's authentication context of a bay (R58). -/
structure AuthContext where
  key : Option Key
  exchange : Exchange3
  mismatches : Nat
  owed : Bool
  deriving DecidableEq, Repr

/-- A bay record (R2), with the bay's debouncer and probe timers (R5, R19), the Check Unit's context (R58) and the
segment controller's waiting SETUP requests (R35). -/
structure Bay where
  state : BayState
  step : Option LinkStep
  refusal : Option RefusalReason
  debounced : Bool
  debounceAt : Option Nat
  probe : ProbeState
  probeAt : Option Nat
  identity : Option Identity
  observed : Option Observed
  auth : AuthState
  verdict : Verdict
  score : Nat
  committed : Nat
  doubt : Nat
  inFlight : Nat
  /-- the spec's 'pending' figure -/
  owing : Nat
  advSeq : Word32
  writeBacks : Nat
  writeBackAt : Option Nat
  settleAt : Option Nat
  relinkAt : Option Nat
  lowWarned : Bool
  countedOut : Bool
  probeEmptySeen : Bool
  /-- a link-up completed into READY or ACTIVE with the probe UNKNOWN, and no INK_PRESENT was established since: the third
  moment of R125 is to come -/
  returnAwaited : Bool
  linkLost : Bool
  overdrawScored : Nat
  lastOutcome : Option BusOutcome
  noReplyCtr : Counter
  malformedCtr : Counter
  challengeFailCtr : Counter
  writeBacksCtr : Counter
  ctx : AuthContext
  waitRechallenge : Bool
  waitMark : Bool
  /-- an ADVANCE write frame was accepted since the link-up's IDENT reply (R60, R90) -/
  advanceSinceIdent : Bool
  deriving DecidableEq, Repr

/-! ## Channels (R94) and their metering state (R71) -/

inductive ChanState where
  | unconfigured | serving | changing | starved
  deriving DecidableEq, Repr

inductive NonGenuinePolicy where
  | serve | refuse
  deriving DecidableEq, Repr

inductive RefillPolicy where
  | proceed | avoid | refuse
  deriving DecidableEq, Repr

inductive RestartMode where
  | auto | host
  deriving DecidableEq, Repr

/-- The settings of R96 as applied under R97. -/
structure Settings where
  colour : Byte
  v0 : BitVec 16
  v1 : BitVec 16
  v2 : BitVec 16
  slope : Int
  lowLevel : Nat
  tolerance : Nat
  quantumMl : Nat
  intervalS : Nat
  reauth : Nat
  nonGenuine : NonGenuinePolicy
  refill : RefillPolicy
  restartMode : RestartMode
  probeRef : Nat
  probeMs : Nat
  switchTens : Nat
  deriving DecidableEq, Repr

/-- The hold-cause set (R95). -/
structure HoldCauses where
  unconfigured : Bool
  starved : Bool
  changing : Bool
  host : Bool
  latch : Bool
  deriving DecidableEq, Repr

structure Channel where
  state : ChanState
  config : Option Settings
  active : Option Side
  former : Option Side
  valve : Side
  causes : HoldCauses
  switchAt : Option Nat
  everServed : Bool
  deriving DecidableEq, Repr

/-- The drop model (R71). -/
structure DropModel where
  v0 : BitVec 16
  v1 : BitVec 16
  v2 : BitVec 16
  slope : Int
  deriving DecidableEq, Repr

/-- Three cumulative drop totals (R68, R71). -/
structure Totals where
  t0 : Word32
  t1 : Word32
  t2 : Word32
  deriving DecidableEq, Repr

/-- The metering state of a channel (R71); `base = none` is an invalid baseline. -/
structure Meter where
  model : Option DropModel
  base : Option Totals
  rt : Nat
  rv : Nat
  unattributed : Nat
  merges : Counter
  restarts : Counter
  deriving DecidableEq, Repr

/-- An entry of a drop report after R68. -/
structure DropEntry where
  chan : ChanId
  temp : Byte
  totals : Totals
  deriving DecidableEq, Repr

/-! ## The bay bus (R34 to R46) -/

inductive EntryClass where
  | setup | meter | service
  deriving DecidableEq, Repr

/-- The operations of a bay entry (R30 to R32). -/
inductive BusOp where
  | ident
  | readBlock (block : Nat)
  | writeBlock (block : Nat) (data : List Byte)
  | advance
  | mark
  | challenge
  deriving DecidableEq, Repr

inductive EntryState where
  | waiting | onBus | pollDue
  deriving DecidableEq, Repr

/-- An outstanding split write (R38, R39). `pollAt = none`: no poll is scheduled. -/
structure SplitWrite where
  acceptedAt : Nat
  pollAt : Option Nat
  deadline : Nat
  deadlinePassed : Bool
  deriving DecidableEq, Repr

/-- What an ADVANCE drew at its first take (R84), and the serial its bay then held (R118). -/
structure Drawn where
  delta : Nat
  seq : Word32
  serial : Option Word64
  deriving DecidableEq, Repr

/-- An entry of a segment's transaction queue (R34). -/
structure BusEntry where
  bay : BayId
  cls : EntryClass
  op : BusOp
  linkStep : Option LinkStep
  enqueued : Nat
  attempts : Nat
  recoded : Bool
  state : EntryState
  /-- waiting for a re-code (R41), with whether its failed frame was a POLL -/
  awaitRecode : Option Bool
  sent : Bool
  split : Option SplitWrite
  drawn : Option Drawn
  /-- the identity it was drawn against has been released (R87, R90) -/
  released : Bool
  deriving DecidableEq, Repr

/-- What an exchange in flight is for (R28). -/
inductive ExchangeFor where
  | setCode (serves : List BayId)
  | entry (bay : BayId) (cls : EntryClass) (poll : Bool)
  deriving DecidableEq, Repr

/-- A frame exchange in flight (R28). -/
structure Exchange where
  what : ExchangeFor
  bytes : List Byte
  code : Byte
  slot : Nat
  seq : Byte
  nonce : Nonce
  endsAt : Nat
  /-- when the reply window opened; none while the frame is being sent -/
  window : Option Nat
  /-- its bay was removed: ended for its owner (R44) -/
  abandoned : Bool
  deriving DecidableEq, Repr

/-- The SET CODE entry (R26), with whether a request it serves comes from a run of polls (R45). -/
structure SetCodeEntry where
  fromPoll : Bool
  deriving DecidableEq, Repr

/-- A segment controller (R46). -/
structure SegCtl where
  code : Byte
  frameSeq : Byte
  queue : List BusEntry
  setCode : Option SetCodeEntry
  stepOne : List BayId
  exchange : Option Exchange
  deriving DecidableEq, Repr

/-! ## The challenge counter (R54) -/

inductive BlockState where
  | reserving | reserved | exhausted
  deriving DecidableEq, Repr

structure ChallengeCounter where
  next : Nat
  blockEnd : Nat
  block : BlockState
  deriving DecidableEq, Repr

/-! ## The seen table and the retained store (R133, R134) -/

/-- The saved fields of a seen entry (R134). -/
structure EntryData where
  serial : Word64
  colour : Byte
  keyGen : BitVec 2
  nominalMl : BitVec 16
  confirmed : Nat
  owed : Nat
  inDoubt : Nat
  score : Nat
  verdict : Verdict
  countedOutSeen : Bool
  probeEmptySeen : Bool
  marked : Bool
  rejected : Bool
  lastBay : BayId
  stamp : Nat
  deriving DecidableEq, Repr

/-- An entry of the working table. `dirty` holds the dirty time in write order (log 23); `rewrite` the first write
since its save in progress began; `pfSave` its place in class 2 (R142, R174). -/
structure Entry where
  data : EntryData
  slot : SlotId
  pin : Option BayId
  dirty : Option Nat
  saving : Bool
  rewrite : Option Nat
  pfSave : Bool
  deriving DecidableEq, Repr

/-- An entry slot of the retained store (R143, R144). -/
inductive StoredSlot where
  | free
  | opened
  | closed (data : EntryData)
  deriving DecidableEq, Repr

/-- The retained store (R47, R54, R133). -/
structure Store where
  keys : Vector (Option Key) 4
  locked : Bool
  limit : Nat
  slots : Vector StoredSlot 64
  deriving DecidableEq, Repr

/-- A save of class 1 (R142). -/
inductive KeySave where
  | key (slot : Fin 4) (key : Key)
  | lock
  | reserve (limit : Nat)
  deriving DecidableEq, Repr

/-- A removal save that waits (R144, R146). -/
structure Removal where
  slot : SlotId
  dirty : Nat
  deriving DecidableEq, Repr

inductive SaveJob where
  | key (save : KeySave)
  | entry (slot : SlotId) (copy : EntryData)
  | removal (slot : SlotId)
  deriving DecidableEq, Repr

/-- The save in progress (R142). It counts for the power-fail set, and for the flush set, only if it began after
its entry joined the set (R171, R174). -/
structure SaveInProgress where
  job : SaveJob
  countsPf : Bool
  countsFlush : Bool
  deriving DecidableEq, Repr

/-- The power-fail states (R173). -/
inductive PfState where
  | normal | saving | saved | resuming
  deriving DecidableEq, Repr

/-- A member of the power-fail set or of a flush set, and whether it is done (R171, R174). -/
structure SetMember where
  serial : Word64
  done : Bool
  deriving DecidableEq, Repr

inductive HistoryEvent where
  | evicted | unrecorded
  deriving DecidableEq, Repr

/-- The fields of a HISTORY notice (R149). -/
structure HistoryFields where
  event : HistoryEvent
  serial : Word64
  owed : Nat
  inDoubt : Nat
  lost : Nat
  lostOwed : Nat
  entries : Nat
  deriving DecidableEq, Repr

/-- The History Unit's volatile state (R133 to R149, R173, R174). -/
structure HistoryUnit where
  /-- the working table, most recent first -/
  table : List Entry
  removals : List Removal
  keySaves : List KeySave
  saving : Option SaveInProgress
  linkSeq : Nat
  writeOrder : Nat
  lostOwed : Nat
  lastNotice : Option HistoryFields
  torn : Nat
  pf : PfState
  pfSet : List SetMember
  pfLevel : Bool
  pfAt : Option Nat
  deriving DecidableEq, Repr

/-! ## The host link (R150 to R166) -/

/-- The receive framer (R151): hunting, or assembling with the bytes after 0xA5 so far. -/
inductive Framer where
  | hunting
  | assembling (bytes : List Byte) (lastByteAt : Nat)
  deriving DecidableEq, Repr

/-- A request of the intake (R153). -/
structure Request where
  kind : Byte
  tag : Byte
  payload : List Byte
  deriving DecidableEq, Repr

/-- What the executing request waits for (R154). -/
inductive Waiting where
  | keySave
  | cartRead (bay : BayId) (block : Nat)
  | cartWrite (bay : BayId) (written : Nat) (rest : List (Nat × List Byte))
  | forget (slot : SlotId) (serial : Word64) (owed inDoubt : Nat)
  | flush (members : List SetMember)
  deriving DecidableEq, Repr

/-- A reply that waits to be sent (R155); `restart` marks the reply whose last byte resets the part (R172). -/
structure Reply where
  tag : Byte
  payload : List Byte
  restart : Bool
  deriving DecidableEq, Repr

/-- The scope of a COUNTER notice and of COUNTERS READ (R166, R167). -/
inductive Scope where
  | bay (b : BayId)
  | chan (c : ChanId)
  | link
  deriving DecidableEq, Repr

/-- The kind of a notice with its subject (R157). -/
inductive NoticeKey where
  | startup
  | bay (b : BayId)
  | channel (c : ChanId)
  | level (b : BayId)
  | verdict (b : BayId)
  | meter (c : ChanId)
  | counter (sc : Scope)
  | power
  | history
  deriving DecidableEq, Repr

inductive LevelEvent where
  | low | countedOut | short
  deriving DecidableEq, Repr

/-- How a queued LEVEL notice came into the queue (R93): raised into it, drained from the backlog map, or drained with
its bay emptied since it was raised. -/
inductive LevelOrigin where
  | raised | drained | emptied
  deriving DecidableEq, Repr

/-- A flag of the backlog map (R158), with whether the bay it names has been emptied since the flag was set (R93). -/
structure BacklogFlag where
  key : NoticeKey
  emptied : Bool
  deriving DecidableEq, Repr

inductive MeterEvent where
  | restart | unattributed
  deriving DecidableEq, Repr

inductive PowerEvent where
  | failEntered | saved | resumed
  deriving DecidableEq, Repr

inductive EvidenceKind where
  | none | rollback | markFound | probeReturn | overdraw | counterMismatch | tagMismatch
  deriving DecidableEq, Repr

inductive StartCause where
  | powerOn | brownout | pin | restart
  deriving DecidableEq, Repr

/-- The fields of a VERDICT notice (R131). -/
structure VerdictFields where
  serial : Option Word64
  kind : EvidenceKind
  points : Nat
  score : Nat
  verdict : Verdict
  changed : Bool
  steps : Nat
  deriving DecidableEq, Repr

/-- The fields of a STARTUP notice (R170). -/
structure StartupFields where
  cause : StartCause
  torn : Nat
  entries : Nat
  keyMask : Nat
  locked : Bool
  block : BlockState
  rate : BitVec 2
  deriving DecidableEq, Repr

/-- The fields of a POWER notice (R176). -/
structure PowerFields where
  event : PowerEvent
  state : PfState
  members : Nat
  done : Nat
  pinned : Nat
  deriving DecidableEq, Repr

/-- A queued notice: its kind and subject, and the fields its kind fixes when it is raised (R157). -/
inductive Notice where
  | startup (f : StartupFields)
  | bay (b : BayId)
  | channel (c : ChanId)
  | level (b : BayId) (event : LevelEvent) (origin : LevelOrigin)
  | verdict (b : BayId) (f : VerdictFields)
  | meter (c : ChanId) (event : MeterEvent)
  | counter (sc : Scope)
  | power (f : PowerFields)
  | history (f : HistoryFields)
  deriving DecidableEq, Repr

/-- The frame the transmitter is sending (R156). -/
structure TxFrame where
  bytes : List Byte
  notice : Bool
  restart : Bool
  deriving DecidableEq, Repr

/-- The Link Interface (R160). -/
structure LinkUnit where
  framer : Framer
  intake : List Request
  waiting : Option Waiting
  reserved : Bool
  replies : List Reply
  notices : List Notice
  backlog : List BacklogFlag
  noticeSeq : Byte
  tx : Option TxFrame
  badFrames : Counter
  droppedRefusals : Counter
  ignoredEntries : Counter
  rate : BitVec 2
  deriving DecidableEq, Repr

/-! ## The whole part -/

/-- The input pins. -/
structure Pins where
  presence : Vector Bool 24
  probe : Vector (BitVec 16) 24
  pfwarn : Bool
  straps : BitVec 2
  deriving DecidableEq, Repr

/-- Where the part stands between a reset and service (R168, R169). -/
inductive Phase where
  | inReset | scanning | reserving | running
  deriving DecidableEq, Repr

/-- The state of the part. -/
structure State where
  now : Nat
  pending : List Instr
  freeCount : Nat
  pins : Pins
  phase : Phase
  cause : StartCause
  ageLimit : Nat
  doubtThreshold : Nat
  refillThreshold : Nat
  bays : Vector Bay 24
  chans : Vector Channel 12
  meters : Vector Meter 12
  meterQueue : List (List DropEntry)
  meterHand : List DropEntry
  segL : SegCtl
  segR : SegCtl
  challenge : ChallengeCounter
  store : Store
  hist : HistoryUnit
  link : LinkUnit
  deriving DecidableEq, Repr

/-- No command of this block stops the machine with a fault: every bad frame, reply or save is state (INVENTORY,
Faults). Closed, with no constructor: no one raises it. -/
inductive Fault where
  deriving DecidableEq, Repr

/-- The refusals. -/
inductive Refusal where
  /-- Raised by exec's arm of a command whose meaning is not written (none is left). Safe: the machine stops. -/
  | notModelled (mnemonic : String)
  deriving DecidableEq, Repr

/-! ## The values after reset -/

/-- A counter after reset (R166). -/
def Counter.zero : Counter := ⟨0, false⟩

/-- An authentication context after reset and after removal (R58). -/
def AuthContext.clear : AuthContext := ⟨none, .none, 0, false⟩

/-- A bay record in reset (R2, column 'After reset'); RESET_END starts the debounce. -/
def Bay.reset : Bay where
  state := .empty
  step := none
  refusal := none
  debounced := false
  debounceAt := none
  probe := .unknown
  probeAt := none
  identity := none
  observed := none
  auth := .none
  verdict := .clean
  score := 0
  committed := 0
  doubt := 0
  inFlight := 0
  owing := 0
  advSeq := 0
  writeBacks := 0
  writeBackAt := none
  settleAt := none
  relinkAt := none
  lowWarned := false
  countedOut := false
  probeEmptySeen := false
  returnAwaited := false
  linkLost := false
  overdrawScored := 0
  lastOutcome := none
  noReplyCtr := .zero
  malformedCtr := .zero
  challengeFailCtr := .zero
  writeBacksCtr := .zero
  ctx := .clear
  waitRechallenge := false
  waitMark := false
  advanceSinceIdent := false

/-- A channel record after reset (R94). -/
def Channel.reset : Channel where
  state := .unconfigured
  config := none
  active := none
  former := none
  valve := .a
  causes := ⟨true, false, false, false, false⟩
  switchAt := none
  everServed := false

/-- A channel's metering state after reset (R71). -/
def Meter.reset : Meter := ⟨none, none, 0, 0, 0, .zero, .zero⟩

/-- A segment controller after reset (R46). -/
def SegCtl.reset : SegCtl := ⟨0, 0, [], none, [], none⟩

/-- The History Unit's volatile state while the part is in reset (R133, R135, R137, R149, R173). -/
def HistoryUnit.reset : HistoryUnit where
  table := []
  removals := []
  keySaves := []
  saving := none
  linkSeq := 1
  writeOrder := 0
  lostOwed := 0
  lastNotice := none
  torn := 0
  pf := .normal
  pfSet := []
  pfLevel := false
  pfAt := none

/-- The Link Interface after reset (R160). -/
def LinkUnit.reset : LinkUnit where
  framer := .hunting
  intake := []
  waiting := none
  reserved := false
  replies := []
  notices := []
  backlog := []
  noticeSeq := 0
  tx := none
  badFrames := .zero
  droppedRefusals := .zero
  ignoredEntries := .zero
  rate := 0

/-- The retained store as the part leaves manufacture (R47, R54, 11.1). -/
def Store.manufactured : Store :=
  ⟨Vector.replicate 4 none, false, 0, Vector.replicate 64 .free⟩

/-- The input pins at the first power-on: DESIGN CHOICE, log 7 (the spec gives no level). -/
def Pins.initial : Pins := ⟨Vector.replicate 24 false, Vector.replicate 24 0, false, 0⟩

/-- The part held in its first POWER_ON reset (R168), its store as manufactured. The challenge counter stands as
R55 takes it from a stored limit of 0. Commands come from outside through `pending` (log 9). -/
def State.reset : State where
  now := 0
  pending := []
  freeCount := 0
  pins := .initial
  phase := .inReset
  cause := .powerOn
  ageLimit := Config.resetAgeLimit
  doubtThreshold := Config.resetDoubt
  refillThreshold := Config.resetRefill
  bays := Vector.replicate 24 .reset
  chans := Vector.replicate 12 .reset
  meters := Vector.replicate 12 .reset
  meterQueue := []
  meterHand := []
  segL := .reset
  segR := .reset
  challenge := ⟨0, Config.challengeBlock, .reserving⟩
  store := .manufactured
  hist := .reset
  link := .reset

end Sys2Proof.Machine
end

