-- ==== Sys2Proof/Machine/Ops.lean ====
section
/-! DEFINITION. The named operations over the state: where a bay stands, reading and writing a record, the clock,
the derived figures of a bay (R3, R126), and the output lines (R95, R159). -/

namespace Sys2Proof.Machine

/-! ## Where a bay stands (R2) -/

/-- The bay's channel: the index modulo 12. -/
def bayChan (b : BayId) : ChanId := ⟨b.val % 12, Nat.mod_lt _ (by decide)⟩

/-- The bay's side: A for 0 to 11, B for 12 to 23. -/
def baySide (b : BayId) : Side := if b.val < 12 then .a else .b

/-- The bay's segment: L for side A, R for side B. -/
def baySeg (b : BayId) : Segment := if b.val < 12 then .l else .r

/-- The bay's slot: its channel number. -/
def baySlot (b : BayId) : Nat := b.val % 12

/-- The bay of a channel on a side. -/
def sideBay (c : ChanId) : Side → BayId
  | .a => ⟨c.val, Nat.lt_of_lt_of_le c.isLt (by decide)⟩
  | .b => ⟨12 + c.val, Nat.add_lt_add_left c.isLt 12⟩

/-- The other side. -/
def otherSide : Side → Side
  | .a => .b
  | .b => .a

/-- All bays in index order. -/
def allBays : List BayId := List.finRange 24

/-- All channels in number order. -/
def allChans : List ChanId := List.finRange 12

/-! ## Records -/

/-- The record of a bay. -/
def State.bay (s : State) (b : BayId) : Bay := s.bays[b.val]

/-- Replace a bay's record. -/
def State.setBay (s : State) (b : BayId) (v : Bay) : State := { s with bays := s.bays.set b.val v }

/-- Change a bay's record. -/
def State.modBay (s : State) (b : BayId) (f : Bay → Bay) : State := s.setBay b (f (s.bay b))

/-- The record of a channel. -/
def State.chan (s : State) (c : ChanId) : Channel := s.chans[c.val]

/-- Replace a channel's record. -/
def State.setChan (s : State) (c : ChanId) (v : Channel) : State := { s with chans := s.chans.set c.val v }

/-- Change a channel's record. -/
def State.modChan (s : State) (c : ChanId) (f : Channel → Channel) : State := s.setChan c (f (s.chan c))

/-- The metering state of a channel. -/
def State.meter (s : State) (c : ChanId) : Meter := s.meters[c.val]

/-- Replace a channel's metering state. -/
def State.setMeter (s : State) (c : ChanId) (v : Meter) : State := { s with meters := s.meters.set c.val v }

/-- Change a channel's metering state. -/
def State.modMeter (s : State) (c : ChanId) (f : Meter → Meter) : State := s.setMeter c (f (s.meter c))

/-- A segment controller. -/
def State.seg (s : State) : Segment → SegCtl
  | .l => s.segL
  | .r => s.segR

/-- Replace a segment controller. -/
def State.setSeg (s : State) (g : Segment) (v : SegCtl) : State :=
  match g with
  | .l => { s with segL := v }
  | .r => { s with segR := v }

/-- Change a segment controller. -/
def State.modSeg (s : State) (g : Segment) (f : SegCtl → SegCtl) : State := s.setSeg g (f (s.seg g))

/-- Change the History Unit's state. -/
def State.modHist (s : State) (f : HistoryUnit → HistoryUnit) : State := { s with hist := f s.hist }

/-- Change the Link Interface's state. -/
def State.modLink (s : State) (f : LinkUnit → LinkUnit) : State := { s with link := f s.link }

/-- The settings of the bay's channel, when it is configured. -/
def State.bayConfig (s : State) (b : BayId) : Option Settings := (s.chan (bayChan b)).config

/-- The raw presence input of a bay. -/
def State.rawPresence (s : State) (b : BayId) : Bool := s.pins.presence[b.val]

/-- The probe signal of a bay, in 1/65536 of the supply. -/
def State.probeSignal (s : State) (b : BayId) : BitVec 16 := s.pins.probe[b.val]

/-- The part is out of reset. -/
def State.up (s : State) : Bool := s.phase ≠ .inReset

/-- The part is in power-fail mode (R173). -/
def State.powerFail (s : State) : Bool := s.hist.pf ≠ .normal

/-! ## The clock (log 2, log 3) -/

/-- Carry the clock to the time of an event, if it stands before it. -/
def State.advanceTo (s : State) (t : Nat) : State := { s with now := max s.now t }

/-- Time passes while no command waits: one microsecond. -/
def State.idle (s : State) : State := { s with now := s.now + 1 }

/-- Milliseconds left on a timer, 0 when it is stopped, rounded up (R163, log 25). -/
def State.msLeft (s : State) : Option Nat → Nat
  | none => 0
  | some t => (t - s.now + 999) / 1000

/-! ## Volumes -/

/-- A 48-bit volume takes an exact sum; where the sum does not fit the value is free (log 12). -/
def fit48 (n : Nat) : Nat := if n ≤ Config.max48 then n else (Config.overflow48 n).toNat

/-- A saturating 48-bit sum (R137, R140). -/
def sat48 (n : Nat) : Nat := min n Config.max48

/-- The nominal volume in nanolitres (R3). -/
def Identity.nominalNl (i : Identity) : Nat := i.nominalMl.toNat * Config.nlPerMl

/-- The exact sum of the four consumption figures (R3). -/
def Bay.consumed (v : Bay) : Nat := v.committed + v.doubt + v.inFlight + v.owing

/-- The nominal volume of the bay's cartridge, 0 with no identity. -/
def Bay.nominalNl (v : Bay) : Nat :=
  match v.identity with
  | some i => i.nominalNl
  | none => 0

/-- Remaining (R3): 0 for a bay with no identity, as its nominal volume then counts 0. -/
def Bay.remaining (v : Bay) : Nat := v.nominalNl - v.consumed

/-- Overdraw (R3): 0 for a bay with no identity. -/
def Bay.overdraw (v : Bay) : Nat :=
  match v.identity with
  | some i => v.consumed - i.nominalNl
  | none => 0

/-- Overdraw steps reached with an allowance and a step size (R126). -/
def overdrawSteps (overdraw allowance step : Nat) : Nat :=
  if overdraw ≤ allowance then 0 else (overdraw - allowance) / step + 1

/-- The overdraw steps a bay has reached under a tolerance in percent (R126). -/
def Bay.stepsReached (v : Bay) (tolerance : Nat) : Nat :=
  match v.identity with
  | none => 0
  | some i =>
    let percent := i.nominalMl.toNat * 10000
    overdrawSteps v.overdraw (percent * tolerance) (if tolerance = 0 then percent else percent * tolerance)

/-! ## Output lines -/

/-- The hold-cause set is non-empty. -/
def HoldCauses.any (h : HoldCauses) : Bool := h.unconfigured || h.starved || h.changing || h.host || h.latch

/-- The hold line of a channel (R95): asserted while the hold-cause set is non-empty. -/
def State.holdLine (s : State) (c : ChanId) : Bool := (s.chan c).causes.any

/-- The valve-select line of a channel (R95). -/
def State.valveLine (s : State) (c : ChanId) : Side := (s.chan c).valve

/-- The attention line (R159): a notice waits or is being sent. -/
def State.attn (s : State) : Bool :=
  !s.link.notices.isEmpty || (match s.link.tx with | some t => t.notice | none => false)

end Sys2Proof.Machine
end

