-- ==== Sys2Proof/Machine/Operands.lean ====
section
/-! DEFINITION. Byte orders, CRCs and the codes of named fields (R27, R152, R178, R180), and how a request's payload,
a drop report and a bay-bus reply are read. -/

namespace Sys2Proof.Machine

/-! ## Byte orders (00_scope.md, R178) -/

/-- `n` bytes of a number, least significant byte first (bay bus). -/
def leBytes : Nat → Nat → List Byte
  | 0, _ => []
  | n + 1, v => BitVec.ofNat 8 v :: leBytes n (v / 256)

/-- `n` bytes of a number, most significant byte first (host link). -/
def beBytes (n v : Nat) : List Byte := (leBytes n v).reverse

/-- The number that bytes spell, least significant first. -/
def leNat : List Byte → Nat
  | [] => 0
  | b :: bs => b.toNat + 256 * leNat bs

/-- The number that bytes spell, most significant first. -/
def beNat (bs : List Byte) : Nat := leNat bs.reverse

/-- Byte `i` of a list, 0 past its end. -/
def byteAt (bs : List Byte) (i : Nat) : Byte := bs.getD i 0

/-- `n` bytes from place `i`. -/
def slice (bs : List Byte) (i n : Nat) : List Byte := (bs.drop i).take n

/-- One byte of a number. -/
def u8 (v : Nat) : Byte := BitVec.ofNat 8 v

/-- A yes-or-no value (R178). -/
def yesNo (b : Bool) : Byte := if b then 1 else 0

/-- A set of flags: bits 0 upward in the order listed (R178). -/
def flagSet : List Bool → Byte
  | [] => 0
  | b :: bs => yesNo b ||| (flagSet bs <<< 1)

/-! ## CRCs -/

/-- One bit of the CRC-16 of R152, most significant bit first. -/
def crc16Bit (crc : BitVec 16) : BitVec 16 :=
  if crc.msb then (crc <<< 1) ^^^ 0x1021#16 else crc <<< 1

/-- One byte of the CRC-16. -/
def crc16Byte (crc : BitVec 16) (b : Byte) : BitVec 16 :=
  Nat.repeat crc16Bit 8 (crc ^^^ (b.setWidth 16 <<< 8))

/-- The CRC-16 of R152: polynomial 0x1021, initial value 0xFFFF, no final inversion. -/
def crc16 (bs : List Byte) : BitVec 16 := bs.foldl crc16Byte 0xFFFF#16

/-- One bit of the CRC-8 of R27 and R180, most significant bit first. -/
def crc8Bit (crc : Byte) : Byte := if crc.msb then (crc <<< 1) ^^^ 0x07#8 else crc <<< 1

/-- The CRC-8 of R27 and R180: polynomial x^8 + x^2 + x + 1, initial value 0. -/
def crc8 (bs : List Byte) : Byte := bs.foldl (fun c b => Nat.repeat crc8Bit 8 (c ^^^ b)) 0

/-! ## Codes of enumerated values (R178) -/

def BayState.code : BayState → Byte
  | .empty => 0 | .settling => 1 | .present => 2 | .linking => 3 | .ready => 4
  | .active => 5 | .spent => 6 | .refused => 7 | .lost => 8

/-- An absent link-up step carries 0. -/
def stepCode : Option LinkStep → Byte
  | none => 0
  | some .setCode => 1
  | some .ident => 2
  | some .challenge => 3
  | some .reconcile => 4
  | some .mark => 5

/-- An absent enumerated value carries 0xFF. -/
def refusalCode : Option RefusalReason → Byte
  | none => 0xFF
  | some .wrongColour => 0
  | some .rejected => 1
  | some .unverifiable => 2
  | some .refilled => 3
  | some .duplicateSerial => 4

def ProbeState.code : ProbeState → Byte
  | .unknown => 0 | .inkPresent => 1 | .inkAbsent => 2

def AuthState.code : AuthState → Byte
  | .none => 0 | .challenging => 1 | .genuine => 2 | .rejected => 3 | .unverifiable => 4

def Verdict.code : Verdict → Byte
  | .clean => 0 | .doubt => 1 | .refilled => 2

/-- The order of verdicts (R116). -/
def Verdict.rank : Verdict → Nat
  | .clean => 0 | .doubt => 1 | .refilled => 2

def BusOutcome.code : BusOutcome → Byte
  | .ok => 0 | .noReply => 1 | .malformed => 2 | .refused => 3 | .failed => 4
  | .busyTimeout => 5 | .removed => 6

def outcomeCode : Option BusOutcome → Byte
  | none => 0xFF
  | some o => o.code

def ChanState.code : ChanState → Byte
  | .unconfigured => 0 | .serving => 1 | .changing => 2 | .starved => 3

def sideByte : Side → Byte
  | .a => 0 | .b => 1

def EvidenceKind.code : EvidenceKind → Byte
  | .none => 0 | .rollback => 1 | .markFound => 2 | .probeReturn => 3 | .overdraw => 4
  | .counterMismatch => 5 | .tagMismatch => 6

def LevelEvent.code : LevelEvent → Byte
  | .low => 0 | .countedOut => 1 | .short => 2

def MeterEvent.code : MeterEvent → Byte
  | .restart => 0 | .unattributed => 1

def PowerEvent.code : PowerEvent → Byte
  | .failEntered => 0 | .saved => 1 | .resumed => 2

def PfState.code : PfState → Byte
  | .normal => 0 | .saving => 1 | .saved => 2 | .resuming => 3

def HistoryEvent.code : HistoryEvent → Byte
  | .evicted => 0 | .unrecorded => 1

def StartCause.code : StartCause → Byte
  | .powerOn => 0 | .brownout => 1 | .pin => 2 | .restart => 3

def BlockState.code : BlockState → Byte
  | .reserving => 0 | .reserved => 1 | .exhausted => 2

def NonGenuinePolicy.code : NonGenuinePolicy → Byte
  | .serve => 0 | .refuse => 1

def RefillPolicy.code : RefillPolicy → Byte
  | .proceed => 0 | .avoid => 1 | .refuse => 2

def RestartMode.code : RestartMode → Byte
  | .auto => 0 | .host => 1

def Exchange3.code : Exchange3 → Byte
  | .none => 0 | .linkup => 1 | .recheck => 2

/-- The result codes of R155. -/
inductive Result where
  | ok | unknownKind | badLength | badArgument | badState | full | locked | emptySlot | isProtected
  | notPresent | noReply | cartRefused | someWritten
  deriving DecidableEq, Repr

def Result.code : Result → Byte
  | .ok => 0 | .unknownKind => 1 | .badLength => 2 | .badArgument => 3 | .badState => 4 | .full => 5
  | .locked => 6 | .emptySlot => 7 | .isProtected => 8 | .notPresent => 9 | .noReply => 10
  | .cartRefused => 11 | .someWritten => 12

/-! ## Kinds of host-link frames (R177) -/

/-- The requests of 8.2. -/
inductive Req where
  | partStatus | setPart | configureChannel | channelQuery | bayQuery | hold | release | loadKey | lockKeys
  | keyCheck | cartRead | cartWrite | historyRead | historyForget | countersRead | flush | restart
  deriving DecidableEq, Repr

def Req.code : Req → Byte
  | .partStatus => 0x01 | .setPart => 0x02 | .configureChannel => 0x03 | .channelQuery => 0x04
  | .bayQuery => 0x05 | .hold => 0x06 | .release => 0x07 | .loadKey => 0x08 | .lockKeys => 0x09
  | .keyCheck => 0x0A | .cartRead => 0x0B | .cartWrite => 0x0C | .historyRead => 0x0D
  | .historyForget => 0x0E | .countersRead => 0x0F | .flush => 0x10 | .restart => 0x11

/-- All requests. -/
def Req.all : List Req :=
  [.partStatus, .setPart, .configureChannel, .channelQuery, .bayQuery, .hold, .release, .loadKey, .lockKeys,
   .keyCheck, .cartRead, .cartWrite, .historyRead, .historyForget, .countersRead, .flush, .restart]

/-- The request a kind byte names. -/
def Req.ofCode (k : Byte) : Option Req := Req.all.find? (fun r => r.code == k)

/-- The drop report's kind. -/
def dropReportKind : Byte := 0x20

/-- The reply's kind. -/
def replyKind : Byte := 0x80

/-- Whether a request kind admits a payload length (R177). -/
def Req.admits (r : Req) (n : Nat) : Bool :=
  match r with
  | .partStatus | .lockKeys | .flush | .restart => n == 0
  | .setPart => n == 3
  | .configureChannel => n == 20
  | .channelQuery | .bayQuery | .hold | .release | .keyCheck | .historyRead | .countersRead => n == 1
  | .loadKey => n == 17
  | .cartRead => n == 2
  | .cartWrite => 10 ≤ n && n ≤ 66 && n % 8 == 2
  | .historyForget => n == 8

/-- The bytes of a host-link frame (R177). -/
def hostFrameBytes (kind tag : Byte) (payload : List Byte) : List Byte :=
  let body := u8 payload.length :: kind :: tag :: payload
  0xA5 :: body ++ beBytes 2 (crc16 body).toNat

/-- The CRC a frame should carry (R152): over its length, kind, tag and payload. -/
def frameCrc (f : HostFrame) : BitVec 16 := crc16 (u8 f.payload.length :: f.kind :: f.tag :: f.payload)

/-! ## Reading payloads -/

/-- A channel number of a payload. -/
def readChan (b : Byte) : Option ChanId := if h : b.toNat < 12 then some ⟨b.toNat, h⟩ else none

/-- A bay index of a payload. -/
def readBay (b : Byte) : Option BayId := if h : b.toNat < 24 then some ⟨b.toNat, h⟩ else none

/-- A scope byte (R177): 0 to 23 a bay, 0x40 to 0x4B a channel, 0x80 the link. -/
def readScope (b : Byte) : Option Scope :=
  if h : b.toNat < 24 then some (.bay ⟨b.toNat, h⟩)
  else if h : 0x40 ≤ b.toNat ∧ b.toNat < 0x4C then some (.chan ⟨b.toNat - 0x40, by omega⟩)
  else if b = 0x80 then some .link
  else none

/-- The scope byte of a scope. -/
def Scope.code : Scope → Byte
  | .bay b => u8 b.val
  | .chan c => u8 (0x40 + c.val)
  | .link => 0x80

/-- Clamp a number to a range (R97). -/
def clamp (lo hi n : Nat) : Nat := max lo (min hi n)

/-- Clamp a signed number to a range (R97, R77). -/
def clampInt (lo hi n : Int) : Int := max lo (min hi n)

def readNonGenuine (b : Byte) : Option NonGenuinePolicy :=
  if b = 0 then some .serve else if b = 1 then some .refuse else none

def readRefill (b : Byte) : Option RefillPolicy :=
  if b = 0 then some .proceed else if b = 1 then some .avoid else if b = 2 then some .refuse else none

def readRestart (b : Byte) : Option RestartMode :=
  if b = 0 then some .auto else if b = 1 then some .host else none

/-- The 19-byte configuration block of R179 as applied under R97, when its policy and mode codes name listed
values (R96, test 2). -/
def readSettings (bs : List Byte) : Option Settings :=
  match readNonGenuine (byteAt bs 13), readRefill (byteAt bs 14), readRestart (byteAt bs 15) with
  | some ng, some rf, some rm =>
    some
      { colour := byteAt bs 0
        v0 := BitVec.ofNat 16 (beNat (slice bs 1 2))
        v1 := BitVec.ofNat 16 (beNat (slice bs 3 2))
        v2 := BitVec.ofNat 16 (beNat (slice bs 5 2))
        slope := clampInt (-8) 8 (byteAt bs 7).toInt
        lowLevel := clamp 1 50 (byteAt bs 8).toNat
        tolerance := clamp 0 15 (byteAt bs 9).toNat
        quantumMl := clamp 1 255 (byteAt bs 10).toNat
        intervalS := clamp 1 255 (byteAt bs 11).toNat
        reauth := (byteAt bs 12).toNat
        nonGenuine := ng
        refill := rf
        restartMode := rm
        probeRef := clamp 0 15 (byteAt bs 16).toNat
        probeMs := clamp 1 255 (byteAt bs 17).toNat
        switchTens := clamp 1 255 (byteAt bs 18).toNat }
  | _, _, _ => none

/-- The 19-byte configuration block of settings as applied (R179). -/
def Settings.block (c : Settings) : List Byte :=
  [c.colour] ++ beBytes 2 c.v0.toNat ++ beBytes 2 c.v1.toNat ++ beBytes 2 c.v2.toNat ++
  [BitVec.ofInt 8 c.slope, u8 c.lowLevel, u8 c.tolerance, u8 c.quantumMl, u8 c.intervalS, u8 c.reauth,
   c.nonGenuine.code, c.refill.code, c.restartMode.code, u8 c.probeRef, u8 c.probeMs, u8 c.switchTens]

/-- The drop model of settings (R71). -/
def Settings.model (c : Settings) : DropModel := ⟨c.v0, c.v1, c.v2, c.slope⟩

/-- A 14-byte entry of a drop report (R177): none for a channel number above 11. -/
def readDropEntry (bs : List Byte) : Option DropEntry :=
  match readChan (byteAt bs 0) with
  | none => none
  | some c =>
    some ⟨c, byteAt bs 1,
      ⟨BitVec.ofNat 32 (beNat (slice bs 2 4)), BitVec.ofNat 32 (beNat (slice bs 6 4)),
       BitVec.ofNat 32 (beNat (slice bs 10 4))⟩⟩

/-- The first `n` pieces of `k` bytes. -/
def pieces (k : Nat) : Nat → List Byte → List (List Byte)
  | 0, _ => []
  | n + 1, bs => bs.take k :: pieces k n (bs.drop k)

/-- Keep, for each channel, the entry that stands last (R68). -/
def keepLast : List DropEntry → List DropEntry
  | [] => []
  | e :: es => if es.any (fun x => x.chan == e.chan) then keepLast es else e :: keepLast es

/-- The identity record in 15 bytes of an IDENT reply (R180). -/
def readIdentity (d : List Byte) : Identity where
  serial := BitVec.ofNat 64 (leNat (slice d 0 8))
  colour := byteAt d 8
  keyGen := BitVec.ofNat 2 (byteAt d 9).toNat
  nominalMl := BitVec.ofNat 16 (leNat (slice d 10 2))
  writeBusy := byteAt d 12
  week := BitVec.ofNat 16 (leNat (slice d 13 2))

/-- The counter and mark of an IDENT reply (R180). -/
def readObserved (d : List Byte) : Observed where
  counter := BitVec.ofNat 40 (leNat (slice d 15 5))
  mark := (byteAt d 20).getLsbD 0

/-- The range check of R4. -/
def Identity.inRange (i : Identity) : Bool :=
  1 ≤ i.colour.toNat && i.colour.toNat ≤ 63 && 100 ≤ i.nominalMl.toNat && i.nominalMl.toNat ≤ 5000 &&
  1 ≤ i.writeBusy.toNat && i.writeBusy.toNat ≤ 50

/-! ## Bay-bus frames (R180) -/

def BusOp.code : BusOp → Nat
  | .ident => 1
  | .readBlock _ => 2
  | .writeBlock _ _ => 3
  | .advance => 4
  | .mark => 5
  | .challenge => 6

/-- The operation code of POLL. -/
def pollCode : Nat := 7

/-- The bytes of a frame sent by the part (R27, R180). -/
def busFrameBytes (code : Byte) (slot op : Nat) (seq : Byte) (args : List Byte) : List Byte :=
  let body := code :: u8 (slot * 16 + op) :: seq :: args
  body ++ [crc8 body]

/-- The reply kinds of R180. -/
inductive ReplyKind where
  | accepted | done | busy | refused | failed
  deriving DecidableEq, Repr

def ReplyKind.ofCode (n : Nat) : Option ReplyKind :=
  if n = 8 then some .accepted else if n = 9 then some .done else if n = 10 then some .busy
  else if n = 11 then some .refused else if n = 12 then some .failed else none

/-- The length of a reply of a kind to an operation, none when the kind is not admitted (R180). -/
def replyLength (op : BusOp) (poll : Bool) (k : ReplyKind) : Option Nat :=
  if poll then
    match k with
    | .done => some (match op with | .advance => 17 | _ => 4)
    | .busy | .failed => some 4
    | .accepted | .refused => none
  else
    match op, k with
    | .ident, .done => some 25
    | .readBlock _, .done => some 12
    | .challenge, .done => some 12
    | .ident, .accepted | .readBlock _, .accepted | .challenge, .accepted => none
    | .writeBlock _ _, .done | .advance, .done | .mark, .done => none
    | _, _ => some 4

end Sys2Proof.Machine
end

