-- ==== Sys2Proof/Machine/CheckFn.lean ====
section
/-! DEFINITION. The check function CF of R51 and its four uses (R52, R53). -/

namespace Sys2Proof.Machine

/-- The working words of the check function. -/
structure CfState where
  a : Word32
  b : Word32
  c : Word32
  d : Word32
  deriving DecidableEq, Repr

/-- Word `i` of a 128-bit key, word 0 the most significant (R51). -/
def keyWord (k : Key) (i : Nat) : Word32 := (k >>> (32 * (3 - i))).setWidth 32

/-- The working words loaded with a key. -/
def cfLoad (k : Key) : CfState := ⟨keyWord k 0, keyWord k 1, keyWord k 2, keyWord k 3⟩

/-- One step S(x): the five actions of R51. -/
def cfStep (w : CfState) (x : Word32) : CfState :=
  let a := w.a + x + w.b.rotateLeft 5
  let d := (w.d ^^^ a).rotateLeft 11
  let c := w.c + d + 0x6A5D3C1B#32
  let b := (w.b ^^^ c).rotateLeft 3
  ⟨b, c, d, a⟩

/-- The inputs of the n + 9 steps: the length, the message, 1 to 8. -/
def cfInputs (m : List Word32) : List Word32 := BitVec.ofNat 32 m.length :: m ++ [1, 2, 3, 4, 5, 6, 7, 8]

/-- CF(K, M) (R51). -/
def checkFn (k : Key) (m : List Word32) : Word64 :=
  let w := (cfInputs m).foldl cfStep (cfLoad k)
  (w.a ^^^ w.c) ++ (w.b ^^^ w.d)

/-- The part of a quantity from bit 32 up, as a message word (R52). -/
def hiWord {n : Nat} (v : BitVec n) : Word32 := BitVec.ofNat 32 (v.toNat / 2 ^ 32)

/-- The low 32 bits of a quantity, as a message word (R52). -/
def loWord {n : Nat} (v : BitVec n) : Word32 := BitVec.ofNat 32 v.toNat

/-- The key check value of a master key (R50, R52). -/
def keyCheckValue (mk : Key) : Word64 := checkFn mk [0]

/-- The cartridge key derived from a master key and a serial (R53). -/
def cartridgeKey (mk : Key) (serial : Word64) : Key :=
  checkFn mk [hiWord serial, loWord serial, 1] ++ checkFn mk [hiWord serial, loWord serial, 2]

/-- The expected challenge response (R60). -/
def expectedResponse (ck : Key) (nonce : Nonce) (counter : BitVec 40) : Word64 :=
  checkFn ck [hiWord nonce, loWord nonce, hiWord counter, loWord counter]

/-- The expected write-back tag (R62). -/
def expectedTag (ck : Key) (seq : Word32) (c : BitVec 40) (delta : Nat) : Word64 :=
  checkFn ck [seq, hiWord c, loWord c, BitVec.ofNat 32 delta]

end Sys2Proof.Machine
end

