-- ==== Sys2Proof/Machine/Records.lean ====
section
/-! DEFINITION. What the host sees of the part: ranks (R100), the query records (R113, R163, R179), the fields of
PART STATUS (R162) and the notices' fields as built when sent (R22, R80, R93, R112, R131, R149, R166, R170, R176). -/

namespace Sys2Proof.Machine

/-! ## Lookups in the seen table and in the transaction queues -/

/-- The working entry of a serial. -/
def State.entryOf? (s : State) (serial : Word64) : Option Entry :=
  s.hist.table.find? (fun e => e.data.serial == serial)

/-- The working entry a bay pins. -/
def State.pinnedBy (s : State) (b : BayId) : Option Entry :=
  s.hist.table.find? (fun e => e.pin == some b)

/-- A bay's entry of a class in its segment's queue (R34). -/
def State.busEntry (s : State) (b : BayId) (k : EntryClass) : Option BusEntry :=
  (s.seg (baySeg b)).queue.find? (fun e => e.bay == b && e.cls == k)

/-- The entry of a bay that holds a split write (R36: at most one). -/
def State.splitEntry (s : State) (b : BayId) : Option BusEntry :=
  (s.seg (baySeg b)).queue.find? (fun e => e.bay == b && e.split.isSome)

/-- The link-up of a bay is running (R8). -/
def Bay.linking (v : Bay) : Bool := v.step.isSome

/-! ## Ranks (R100) -/

inductive Rank where
  | none | fallback | preferred
  deriving DecidableEq, Repr

/-- The order of ranks, and their codes (R178). -/
def Rank.level : Rank → Nat
  | .none => 0 | .fallback => 1 | .preferred => 2

/-- The authentication condition of preferred rank (R100). -/
def authServes (a : AuthState) (p : NonGenuinePolicy) : Bool :=
  a == .genuine || ((a == .rejected || a == .unverifiable) && p == .serve)

/-- The rank of a bay under its channel's settings (R100). -/
def rankOf (cfg : Option Settings) (v : Bay) : Rank :=
  match cfg, v.identity with
  | some c, some i =>
    if i.colour ≠ c.colour then .none
    else
      match v.state with
      | .ready | .active =>
        if authServes v.auth c.nonGenuine then
          if v.verdict ≠ .refilled then .preferred
          else
            match c.refill with
            | .proceed => .preferred
            | .avoid => .fallback
            | .refuse => .none
        else .none
      | .lost => .fallback
      | _ => .none
  | _, _ => .none

/-- The rank of a channel's bay on a side. -/
def State.rank (s : State) (c : ChanId) (sd : Side) : Rank := rankOf (s.chan c).config (s.bay (sideBay c sd))

/-! ## Encoded fields -/

/-- An optional bay index: 0xFF when absent (R178). -/
def bayCode : Option BayId → Byte
  | none => 0xFF
  | some b => u8 b.val

/-- A channel's active or former bay as a bay index. -/
def sideCode (c : ChanId) : Option Side → Byte
  | none => 0xFF
  | some sd => u8 (sideBay c sd).val

/-- An optional number of `n` bytes: a presence byte, then its bytes, 0 when absent (R178). -/
def optNumber (n : Nat) : Option Nat → List Byte
  | none => 0 :: beBytes n 0
  | some v => 1 :: beBytes n v

/-- The hold-cause set as a set of flags, in the order of R94. -/
def HoldCauses.code (h : HoldCauses) : Byte := flagSet [h.unconfigured, h.starved, h.changing, h.host, h.latch]

/-- The mask of loaded key slots (R178: bit s for slot s). -/
def Store.keyMask (st : Store) : Byte := flagSet (st.keys.toList.map Option.isSome)

/-- The mask of configured channels (R178: bit c for channel c). -/
def State.configuredMask (s : State) : Nat :=
  allChans.foldl (fun n c => if (s.chan c).config.isSome then n + 2 ^ c.val else n) 0

/-- The places of the reply buffer that are taken (R155): replies that wait, the one being sent, the reserved one. -/
def LinkUnit.placesTaken (li : LinkUnit) : Nat :=
  li.replies.length + (match li.tx with | some t => if t.notice then 0 else 1 | none => 0) +
    (if li.reserved then 1 else 0)

/-- The serial of the bay's identity, 0 with none. -/
def Bay.serialNat (v : Bay) : Nat :=
  match v.identity with
  | some i => i.serial.toNat
  | none => 0

/-- The nominal volume in millilitres, 0 with no identity. -/
def Bay.nominalMl (v : Bay) : Nat :=
  match v.identity with
  | some i => i.nominalMl.toNat
  | none => 0

/-- The tolerance of the bay's channel, 0 while it is unconfigured. -/
def State.tolerance (s : State) (b : BayId) : Nat :=
  match s.bayConfig b with
  | some c => c.tolerance
  | none => 0

/-- The list position of the entry a bay pins, 0xFF with none (R179). -/
def State.pinPosition (s : State) (b : BayId) : Byte :=
  match s.hist.table.findIdx? (fun e => e.pin == some b) with
  | some i => u8 i
  | none => 0xFF

/-- The identity fields of the BAY QUERY record, bytes 9 to 23 (R179); 0 while the identity is absent. -/
def identityBytes : Option Identity → List Byte
  | none => List.replicate 15 0
  | some i =>
    beBytes 8 i.serial.toNat ++ [i.colour, u8 i.keyGen.toNat] ++ beBytes 2 i.nominalMl.toNat ++
      [i.writeBusy] ++ beBytes 2 i.week.toNat

/-- The bay flags of the BAY QUERY record, byte 8 (R179). -/
def Bay.flags (v : Bay) : Byte :=
  flagSet [v.debounced, v.lowWarned, v.countedOut, v.probeEmptySeen, v.linkLost, v.identity.isSome,
    v.observed.isSome, (match v.observed with | some o => o.mark | none => false)]

/-- The observed counter, 0 when absent. -/
def Bay.observedCounter (v : Bay) : Nat :=
  match v.observed with
  | some o => o.counter.toNat
  | none => 0

/-- The 97-byte record of BAY QUERY (R163, R179). With no exchange in progress the mismatch bit shows the count the last
exchange left (DEDUCED, log 41). -/
def State.bayRecord (s : State) (b : BayId) : List Byte :=
  let v := s.bay b
  [u8 b.val, v.state.code, stepCode v.step, refusalCode v.refusal, v.probe.code, v.auth.code, v.verdict.code,
    u8 v.score, v.flags] ++
  identityBytes v.identity ++
  beBytes 5 v.observedCounter ++ beBytes 5 v.committed ++ beBytes 6 v.doubt ++ beBytes 6 v.inFlight ++
  beBytes 6 v.owing ++
  (if v.identity.isSome then
    beBytes 6 (fit48 v.consumed) ++ beBytes 6 v.remaining ++ beBytes 6 (fit48 v.overdraw)
   else List.replicate 18 0) ++
  [u8 v.overdrawScored, u8 (min 255 (v.stepsReached (s.tolerance b)))] ++
  beBytes 4 v.advSeq.toNat ++ [u8 v.writeBacks] ++
  beBytes 4 (s.msLeft v.writeBackAt) ++ beBytes 4 (s.msLeft v.settleAt) ++ beBytes 4 (s.msLeft v.relinkAt) ++
  [outcomeCode v.lastOutcome, u8 v.noReplyCtr.value, u8 v.malformedCtr.value, u8 v.challengeFailCtr.value,
    u8 v.writeBacksCtr.value,
    flagSet [(s.splitEntry b).isSome, (s.busEntry b .setup).isSome, (s.busEntry b .meter).isSome,
      (s.busEntry b .service).isSome, v.waitRechallenge, v.waitMark],
    v.ctx.exchange.code ||| (u8 v.ctx.mismatches <<< 2) ||| (yesNo v.ctx.owed <<< 3),
    s.pinPosition b]

/-- The 36-byte record of CHANNEL QUERY (R113, R179). -/
def State.chanRecord (s : State) (c : ChanId) : List Byte :=
  let h := s.chan c
  let m := s.meter c
  [u8 c.val, h.state.code, sideCode c h.active, sideCode c h.former, sideByte h.valve,
    h.causes.code ||| (yesNo h.causes.any <<< 7), flagSet [h.config.isSome, h.everServed]] ++
  beBytes 2 (s.msLeft h.switchAt) ++
  [u8 (s.rank c .a).level, u8 (s.rank c .b).level] ++
  (match h.config with | some k => k.block | none => List.replicate 19 0) ++
  beBytes 4 m.unattributed ++ [u8 m.merges.value, u8 m.restarts.value]

/-- The fields of PART STATUS (R162). -/
def State.statusFields (s : State) : List Byte :=
  [s.cause.code, u8 s.hist.torn, u8 s.link.rate.toNat, yesNo s.store.locked, s.store.keyMask, s.challenge.block.code,
    u8 s.doubtThreshold, u8 s.refillThreshold] ++ beBytes 2 s.ageLimit ++
  [yesNo s.powerFail, yesNo s.hist.pfLevel,
    u8 s.hist.table.length, u8 (s.hist.table.countP (fun e => e.pin.isSome)),
    u8 (s.hist.table.countP (fun e => e.dirty.isSome))] ++
  beBytes 6 s.hist.lostOwed ++ beBytes 2 s.configuredMask ++
  [u8 s.link.intake.length, u8 s.link.placesTaken, u8 s.link.notices.length, u8 s.link.backlog.length] ++
  beBytes 2 s.link.badFrames.value ++ beBytes 2 s.link.droppedRefusals.value ++
  beBytes 2 s.link.ignoredEntries.value

/-- The entry fields of HISTORY READ (R147). -/
def Entry.fields (e : Entry) : List Byte :=
  let d := e.data
  beBytes 8 d.serial.toNat ++ [d.colour, u8 d.keyGen.toNat] ++ beBytes 2 d.nominalMl.toNat ++
  beBytes 5 d.confirmed ++ beBytes 6 d.owed ++ beBytes 6 d.inDoubt ++
  [u8 d.score, d.verdict.code, flagSet [d.countedOutSeen, d.probeEmptySeen, d.marked, d.rejected],
    u8 d.lastBay.val] ++ beBytes 4 d.stamp ++ [bayCode e.pin, yesNo e.dirty.isSome, yesNo e.saving]

/-- Bytes of 0 for a field that a message carries in another case only (R178). -/
def zeros (n : Nat) : List Byte := List.replicate n 0

/-- The four counters of a bay. -/
def Bay.counterBytes (v : Bay) : List Byte :=
  [u8 v.noReplyCtr.value, u8 v.malformedCtr.value, u8 v.challengeFailCtr.value, u8 v.writeBacksCtr.value]

/-- The two counters of a channel. -/
def Meter.counterBytes (m : Meter) : List Byte := [u8 m.merges.value, u8 m.restarts.value]

/-- The three counters of the link. -/
def LinkUnit.counterBytes (li : LinkUnit) : List Byte :=
  beBytes 2 li.badFrames.value ++ beBytes 2 li.droppedRefusals.value ++ beBytes 2 li.ignoredEntries.value

/-- The counters of a scope, as COUNTERS READ and COUNTER notices carry them (R166, R167). Each of the two messages has
one length (R178): the counters of all three scopes keep their places, in R166's order, and those outside the scope
are 0 (DEDUCED, log 26). -/
def State.counterValues (s : State) : Scope → List Byte
  | .bay b => (s.bay b).counterBytes ++ zeros 8
  | .chan c => zeros 4 ++ (s.meter c).counterBytes ++ zeros 6
  | .link => zeros 6 ++ s.link.counterBytes

/-- The half-scale flags of a scope (R166). -/
def State.counterFlags (s : State) : Scope → Byte
  | .bay b =>
    let v := s.bay b
    flagSet [v.noReplyCtr.half, v.malformedCtr.half, v.challengeFailCtr.half, v.writeBacksCtr.half]
  | .chan c =>
    let m := s.meter c
    flagSet [m.merges.half, m.restarts.half]
  | .link => flagSet [s.link.badFrames.half, s.link.droppedRefusals.half, s.link.ignoredEntries.half]

/-! ## Notices -/

/-- The kind and subject of a notice (R157). -/
def Notice.key : Notice → NoticeKey
  | .startup _ => .startup
  | .bay b => .bay b
  | .channel c => .channel c
  | .level b _ _ => .level b
  | .verdict b _ => .verdict b
  | .meter c _ => .meter c
  | .counter sc => .counter sc
  | .power _ => .power
  | .history _ => .history

/-- The kind code of a notice (R177). -/
def Notice.kindCode : Notice → Byte
  | .startup _ => 0x81
  | .bay _ => 0x82
  | .channel _ => 0x83
  | .level _ _ _ => 0x84
  | .verdict _ _ => 0x85
  | .meter _ _ => 0x86
  | .counter _ => 0x87
  | .power _ => 0x88
  | .history _ => 0x89

/-- The fields of a LEVEL notice (R93): the event and the bay's figures as they stand; the figures are 0 while the bay
holds no identity. A backlogged one whose bay has been emptied since it was raised has the bay index alone. -/
def State.levelFields (s : State) (b : BayId) (ev : LevelEvent) (o : LevelOrigin) : List Byte :=
  let v := s.bay b
  if o = .emptied then [u8 b.val, LevelEvent.low.code] ++ List.replicate 28 0
  else
    [u8 b.val, ev.code] ++ beBytes 8 v.serialNat ++ beBytes 2 v.nominalMl ++
    (if v.identity.isSome then
      beBytes 6 (fit48 v.consumed) ++ beBytes 6 v.remaining ++ beBytes 6 (fit48 v.overdraw)
     else List.replicate 18 0)

/-- The payload of a notice, built from the state as it stands when it is sent (R22, R80, R93, R112, R131, R149,
R166, R170, R176). -/
def State.noticePayload (s : State) : Notice → List Byte
  | .startup f =>
    [f.cause.code, u8 f.torn, u8 f.entries, u8 f.keyMask, yesNo f.locked, f.block.code, u8 f.rate.toNat]
  | .bay b =>
    let v := s.bay b
    [u8 b.val, v.state.code, refusalCode v.refusal, stepCode v.step, v.auth.code, v.verdict.code, u8 v.score] ++
    optNumber 8 (v.identity.map (fun i => i.serial.toNat)) ++ [outcomeCode v.lastOutcome]
  | .channel c =>
    let h := s.chan c
    [u8 c.val, h.state.code, sideCode c h.active, sideCode c h.former, sideByte h.valve, h.causes.code,
      yesNo h.causes.any, u8 (s.rank c .a).level, u8 (s.rank c .b).level]
  | .level b ev o => s.levelFields b ev o
  | .verdict b f =>
    [u8 b.val] ++ optNumber 8 (f.serial.map BitVec.toNat) ++
    [f.kind.code, u8 f.points, u8 f.score, f.verdict.code, yesNo f.changed, u8 f.steps]
  | .meter c ev =>
    let m := s.meter c
    [u8 c.val, ev.code] ++ beBytes 4 m.unattributed ++ [u8 m.restarts.value, u8 m.merges.value]
  | .counter sc => [sc.code] ++ s.counterValues sc ++ [s.counterFlags sc]
  | .power f => [f.event.code, f.state.code, u8 f.members, u8 f.done, u8 f.pinned]
  | .history f =>
    [f.event.code] ++ beBytes 8 f.serial.toNat ++ beBytes 6 f.owed ++ beBytes 6 f.inDoubt ++ beBytes 6 f.lost ++
    beBytes 6 f.lostOwed ++ [u8 f.entries]

end Sys2Proof.Machine
end

