-- ==== Sys2Proof/Machine/Notices.lean ====
section
/-! DEFINITION. Notices and replies on their way out (R154 to R159): raising a notice, the backlog map, placing a
reply, and the transmitter. -/

namespace Sys2Proof.Machine

/-! ## The backlog map (R158) -/

/-- The order in which flags are drained: kinds in the order of R158, subjects within a kind. -/
def NoticeKey.rank : NoticeKey → Nat
  | .startup => 0
  | .bay b => 100 + b.val
  | .channel c => 200 + c.val
  | .level b => 300 + b.val
  | .verdict b => 400 + b.val
  | .meter c => 500 + c.val
  | .counter (.bay b) => 600 + b.val
  | .counter (.chan c) => 624 + c.val
  | .counter .link => 636
  | .power => 700
  | .history => 800

/-- Set a flag: the map is held in drain order, with no flag twice, and a flag that is set already stays as it is. -/
def setFlag (k : NoticeKey) : List BacklogFlag → List BacklogFlag
  | [] => [⟨k, false⟩]
  | x :: xs =>
    if k = x.key then x :: xs else if k.rank < x.key.rank then ⟨k, false⟩ :: x :: xs else x :: setFlag k xs

/-- The fields of a STARTUP notice as they stand (R170). -/
def State.startupFields (s : State) : StartupFields where
  cause := s.cause
  torn := s.hist.torn
  entries := s.hist.table.length
  keyMask := s.store.keyMask.toNat
  locked := s.store.locked
  block := s.challenge.block
  rate := s.link.rate

/-- The fields of a POWER notice as they stand (R176). -/
def State.powerFields (s : State) (ev : PowerEvent) : PowerFields where
  event := ev
  state := s.hist.pf
  members := s.hist.pfSet.length
  done := s.hist.pfSet.countP (fun m => m.done)
  pinned := s.hist.table.countP (fun e => e.pin.isSome)

/-- Remaining exceeds 5 percent of the nominal volume (R20, R93). -/
def Bay.short (v : Bay) : Bool := v.remaining > v.nominalMl * 50000

/-- The event of a LEVEL notice drained from the backlog, whose bay has not been emptied since (R93). -/
def Bay.drainedLevel (v : Bay) : LevelEvent :=
  if v.countedOut then .countedOut
  else if v.state = .spent ∧ v.short then .short
  else .low

/-- The event of a POWER notice drained from the backlog (R176). -/
def PfState.drainedEvent : PfState → PowerEvent
  | .saving | .resuming => .failEntered
  | .saved => .saved
  | .normal => .resumed

/-- A notice drained from the backlog, with the fields its kind fixes taken from the state (R158). -/
def State.drainedNotice (s : State) (f : BacklogFlag) : Notice :=
  match f.key with
  | .startup => .startup s.startupFields
  | .bay b => .bay b
  | .channel c => .channel c
  | .level b => if f.emptied then .level b .low .emptied else .level b (s.bay b).drainedLevel .drained
  | .verdict b =>
    let v := s.bay b
    match v.identity with
    | some i => .verdict b ⟨some i.serial, .none, 0, v.score, v.verdict, false, 0⟩
    | none => .verdict b ⟨none, .none, 0, 0, .clean, false, 0⟩
  | .meter c => .meter c (if (s.meter c).unattributed = 0 then .restart else .unattributed)
  | .counter sc => .counter sc
  | .power => .power (s.powerFields s.hist.pf.drainedEvent)
  | .history =>
    match s.hist.lastNotice with
    | some f => .history { f with lostOwed := s.hist.lostOwed, entries := s.hist.table.length }
    | none => .history ⟨.evicted, 0, 0, 0, 0, s.hist.lostOwed, s.hist.table.length⟩

/-- When a notice has left the queue and a flag is set, the first flag is drained into the freed place (R158). -/
def State.drain (s : State) : State :=
  match s.link.backlog with
  | [] => s
  | f :: fs => { s with link := { s.link with backlog := fs, notices := s.link.notices ++ [s.drainedNotice f] } }

/-! ## An emptied bay (R93) -/

/-- The flag's bay is emptied. -/
def BacklogFlag.noteEmptied (b : BayId) (f : BacklogFlag) : BacklogFlag :=
  if f.key = .level b then { f with emptied := true } else f

/-- A LEVEL notice that was backlogged waits when its bay is emptied: it has the bay index alone (R93). -/
def Notice.noteEmptied (b : BayId) (n : Notice) : Notice :=
  match n with
  | .level c _ .drained => if c = b then .level c .low .emptied else n
  | _ => n

/-- A bay is emptied: its backlogged LEVEL notice, flagged or drained, no longer tells of the cartridge it holds next,
whatever is raised for that one while the flag stands (R93, R158; DEDUCED, log 52). -/
def State.noteEmptied (s : State) (b : BayId) : State :=
  { s with link := { s.link with
      notices := s.link.notices.map (Notice.noteEmptied b)
      backlog := s.link.backlog.map (BacklogFlag.noteEmptied b) } }

/-! ## Raising a notice (R157) -/

/-- A notice that is built when sent merges with one of its kind and subject that waits (R157). -/
def Notice.mergesInto (n : Notice) (q : List Notice) : Bool :=
  match n with
  | .bay _ | .channel _ | .counter _ => q.any (fun m => m.key == n.key)
  | _ => false

/-- Raise a notice (R157, R158). -/
def State.raise (s : State) (n : Notice) : State :=
  if s.link.notices.length < Config.noticeCapacity then
    if n.mergesInto s.link.notices then s
    else { s with link := { s.link with notices := s.link.notices ++ [n] } }
  else { s with link := { s.link with backlog := setFlag n.key s.link.backlog } }

/-! ## The transmitter (R156) -/

/-- An idle transmitter begins the oldest reply, or else the oldest notice. It acts once, on the state a command
leaves (log 5). -/
def State.transmit (s : State) : State :=
  match s.link.tx with
  | some _ => s
  | none =>
    match s.link.replies with
    | r :: rs =>
      { s with link := { s.link with
          replies := rs
          tx := some ⟨hostFrameBytes replyKind r.tag r.payload, false, r.restart⟩ } }
    | [] =>
      match s.link.notices with
      | [] => s
      | n :: ns =>
        State.drain { s with link := { s.link with
          notices := ns
          noticeSeq := s.link.noticeSeq + 1
          tx := some ⟨hostFrameBytes n.kindCode s.link.noticeSeq (s.noticePayload n), true, false⟩ } }

/-! ## Replies (R154, R155) -/

/-- A free place of the reply buffer (R155). -/
def LinkUnit.hasPlace (li : LinkUnit) : Bool := li.placesTaken < Config.replyPlaces

/-- The executing request places its reply in its reserved place and leaves the intake (R154). -/
def State.finishRequest (s : State) (r : Result) (fields : List Byte) (restart : Bool) : State :=
  match s.link.intake with
  | [] => s
  | q :: qs =>
    { s with link := { s.link with
        intake := qs
        waiting := none
        reserved := false
        replies := s.link.replies ++ [⟨q.tag, q.kind :: r.code :: fields, restart⟩] } }

/-- The executing request holds the intake while it waits (R154). -/
def State.waitFor (s : State) (w : Waiting) : State :=
  { s with link := { s.link with waiting := some w, reserved := true } }

end Sys2Proof.Machine
end

