-- ==== Sys2Proof/Machine/Flags.lean ====
section
/-! DEFINITION. The event counters with their half-scale flags (R23, R166), and the answers made at once (R152,
R153). -/

namespace Sys2Proof.Machine

/-- Largest value and half scale of an 8-bit counter (R166). -/
def max8 : Nat := 255
def half8 : Nat := 128
/-- Largest value and half scale of a 16-bit counter (R166). -/
def max16 : Nat := 65535
def half16 : Nat := 32768

/-- An increment lifts the counter to its half-scale value with its flag clear (R166). -/
def Counter.lifts (k : Counter) (mx half : Nat) : Bool := k.value < mx && k.value + 1 == half && !k.half

/-- Increment a saturating counter and set its half-scale flag where R166 says. -/
def Counter.bump (k : Counter) (mx half : Nat) : Counter :=
  ⟨min mx (k.value + 1), k.half || k.lifts mx half⟩

/-- Raise the COUNTER notice of a scope when an increment lifted one of its counters to half scale (R166). -/
def State.raiseIf (s : State) (lifted : Bool) (sc : Scope) : State := if lifted then s.raise (.counter sc) else s

def State.bumpNoReply (s : State) (b : BayId) : State :=
  let k := (s.bay b).noReplyCtr
  (s.modBay b (fun v => { v with noReplyCtr := k.bump max8 half8 })).raiseIf (k.lifts max8 half8) (.bay b)

def State.bumpMalformed (s : State) (b : BayId) : State :=
  let k := (s.bay b).malformedCtr
  (s.modBay b (fun v => { v with malformedCtr := k.bump max8 half8 })).raiseIf (k.lifts max8 half8) (.bay b)

def State.bumpChallengeFail (s : State) (b : BayId) : State :=
  let k := (s.bay b).challengeFailCtr
  (s.modBay b (fun v => { v with challengeFailCtr := k.bump max8 half8 })).raiseIf (k.lifts max8 half8) (.bay b)

def State.bumpWriteBacks (s : State) (b : BayId) : State :=
  let k := (s.bay b).writeBacksCtr
  (s.modBay b (fun v => { v with writeBacksCtr := k.bump max8 half8 })).raiseIf (k.lifts max8 half8) (.bay b)

def State.bumpMerges (s : State) (c : ChanId) : State :=
  let k := (s.meter c).merges
  (s.modMeter c (fun m => { m with merges := k.bump max8 half8 })).raiseIf (k.lifts max8 half8) (.chan c)

def State.bumpRestarts (s : State) (c : ChanId) : State :=
  let k := (s.meter c).restarts
  (s.modMeter c (fun m => { m with restarts := k.bump max8 half8 })).raiseIf (k.lifts max8 half8) (.chan c)

def State.bumpBadFrames (s : State) : State :=
  let k := s.link.badFrames
  State.raiseIf { s with link := { s.link with badFrames := k.bump max16 half16 } } (k.lifts max16 half16) .link

def State.bumpDropped (s : State) : State :=
  let k := s.link.droppedRefusals
  State.raiseIf { s with link := { s.link with droppedRefusals := k.bump max16 half16 } } (k.lifts max16 half16) .link

def State.bumpIgnored (s : State) : State :=
  let k := s.link.ignoredEntries
  State.raiseIf { s with link := { s.link with ignoredEntries := k.bump max16 half16 } } (k.lifts max16 half16) .link

/-- Answer a frame at once: BAD_LENGTH, UNKNOWN_KIND (R152) or FULL (R153); with no free place the frame is
dropped and counted. -/
def State.answerNow (s : State) (kind tag : Byte) (r : Result) : State :=
  if s.link.hasPlace then
    { s with link := { s.link with replies := s.link.replies ++ [⟨tag, [kind, r.code], false⟩] } }
  else s.bumpDropped

end Sys2Proof.Machine
end

