-- ==== Sys2Proof/Machine/History.lean ====
section
/-! DEFINITION. The seen table (R133 to R141, R149): writing, refreshing, stamping, looking up, creating, evicting and
releasing entries, and membership of the power-fail and flush sets (R171, R174, R175). -/

namespace Sys2Proof.Machine

/-- A write reaches an entry at time `t` of the write order: it is dirty from its first such time, and a save in
progress does not carry the write (R141, R143). -/
def Entry.touch (e : Entry) (t : Nat) : Entry :=
  { e with
    dirty := some (e.dirty.getD t)
    rewrite := if e.saving then some (e.rewrite.getD t) else e.rewrite }

/-- Write the entry of a serial and mark it dirty (R139, R141). -/
def State.writeEntry (s : State) (serial : Word64) (f : Entry → Entry) : State :=
  { s with hist := { s.hist with
      table := s.hist.table.map (fun e => if e.data.serial == serial then (f e).touch s.hist.writeOrder else e)
      writeOrder := s.hist.writeOrder + 1 } }

/-- Write the entry of a serial without marking it dirty (R92, R139: counting out). -/
def State.writeQuietly (s : State) (serial : Word64) (f : Entry → Entry) : State :=
  { s with hist := { s.hist with
      table := s.hist.table.map (fun e => if e.data.serial == serial then f e else e) } }

/-- Change the saved fields of an entry. -/
def Entry.withData (f : EntryData → EntryData) (e : Entry) : Entry := { e with data := f e.data }

/-- The bay's ADVANCE in its queue has had its write frame accepted (R138). -/
def State.meterAccepted (s : State) (b : BayId) : Bool :=
  match s.busEntry b .meter with
  | some e => e.split.isSome
  | none => false

/-- The entry fields a refresh writes (R138), from a bay's record and identity. -/
def refreshData (v : Bay) (i : Identity) (b : BayId) (accepted : Bool) (d : EntryData) : EntryData :=
  { d with
    colour := i.colour
    keyGen := i.keyGen
    nominalMl := i.nominalMl
    confirmed := v.committed
    owed := fit48 (v.owing + (if accepted then 0 else v.inFlight))
    inDoubt := fit48 (v.doubt + (if accepted then v.inFlight else 0))
    score := v.score
    verdict := v.verdict
    countedOutSeen := d.countedOutSeen || v.countedOut
    probeEmptySeen := v.probeEmptySeen
    rejected := d.rejected || v.auth == .rejected
    lastBay := b }

/-- Refresh the entry a bay pins from the bay (R138). -/
def State.refresh (s : State) (b : BayId) : State :=
  match s.pinnedBy b, (s.bay b).identity with
  | some e, some i =>
    s.writeEntry e.data.serial (Entry.withData (refreshData (s.bay b) i b (s.meterAccepted b)))
  | _, _ => s

/-! ## Sets of the power-fail mode and of a flush -/

/-- Mark a serial's member done. -/
def markDone (serial : Word64) (ms : List SetMember) : List SetMember :=
  ms.map (fun m => if m.serial == serial then { m with done := true } else m)

/-- Mark a serial done in the flush the executing request waits for (R171). -/
def State.flushDone (s : State) (serial : Word64) : State :=
  match s.link.waiting with
  | some (.flush ms) => { s with link := { s.link with waiting := some (.flush (markDone serial ms)) } }
  | _ => s

/-- Mark a serial done in the power-fail set (R174). -/
def State.pfDone (s : State) (serial : Word64) : State :=
  { s with hist := { s.hist with pfSet := markDone serial s.hist.pfSet } }

/-- A save in progress of a slot does not count for a set joined after it began (R171, R174). -/
def SaveInProgress.uncountPf (sv : SaveInProgress) (slot : SlotId) : SaveInProgress :=
  match sv.job with
  | .entry sl _ => if sl = slot then { sv with countsPf := false } else sv
  | _ => sv

/-- An unpinned dirty entry joins a set while its save is in progress (R171, R174): that save does not count, so the
entry stays dirty past it, as though written at time `t`, and is saved again (DEDUCED, log 49). -/
def Entry.resave (t : Nat) (e : Entry) : Entry :=
  if e.pin.isNone && e.dirty.isSome && e.saving then { e with rewrite := some (e.rewrite.getD t) } else e

/-- An entry pinned by a lookup during SAVING joins the power-fail set with a class-2 save (R175). -/
def State.pfJoin (s : State) (e : Entry) : State :=
  if s.hist.pf = .saving then
    { s with hist := { s.hist with
        table := s.hist.table.map
          (fun x => if x.data.serial == e.data.serial then { x with pfSave := true } else x)
        pfSet := s.hist.pfSet.filter (fun m => m.serial != e.data.serial) ++ [⟨e.data.serial, false⟩]
        saving := s.hist.saving.map (fun sv => sv.uncountPf e.slot) } }
  else s

/-! ## Leaving the table -/

/-- An entry leaves the working table: it is done for every set it was in (R171, R174). -/
def State.dropEntry (s : State) (serial : Word64) : State :=
  ({ s with hist := { s.hist with
      table := s.hist.table.filter (fun e => e.data.serial != serial) } }.pfDone serial).flushDone serial

/-- Raise a HISTORY notice and keep its copy (R149). -/
def State.raiseHistory (s : State) (f : HistoryFields) : State :=
  State.raise { s with hist := { s.hist with lastNotice := some f } } (.history f)

/-- Count ink that no entry can hold, and report it with the number of entries the table then holds (R137, R140, R149;
log 56). -/
def State.loseInk (s : State) (ev : HistoryEvent) (serial : Word64) (owed inDoubt lost : Nat) : State :=
  let total := sat48 (s.hist.lostOwed + owed + inDoubt + lost)
  State.raiseHistory { s with hist := { s.hist with lostOwed := total } }
    ⟨ev, serial, owed, inDoubt, lost, total, s.hist.table.length⟩

/-! ## Slots and eviction (R137, R144) -/

/-- The slot of a removal save in progress. -/
def State.removingSlot (s : State) : Option SlotId :=
  match s.hist.saving with
  | some ⟨.removal sl, _, _⟩ => some sl
  | _ => none

/-- The slot is held by an entry or awaits its removal save (R137, R144). -/
def State.slotTaken (s : State) (sl : SlotId) : Bool :=
  s.hist.table.any (fun e => e.slot == sl) || s.hist.removals.any (fun r => r.slot == sl) ||
    s.removingSlot == some sl

/-- The lowest free slot (log 24). -/
def State.freeSlot (s : State) : Option SlotId := (List.finRange 64).find? (fun sl => !s.slotTaken sl)

/-- The unpinned entry an eviction takes (R137): the least recent with nothing owed or in doubt, else the least
recent. -/
def State.evictee (s : State) : Option Entry :=
  match s.hist.table.reverse.find? (fun e => e.pin.isNone && e.data.owed == 0 && e.data.inDoubt == 0) with
  | some e => some e
  | none => s.hist.table.reverse.find? (fun e => e.pin.isNone)

/-- A creation finds a slot: free, or by an eviction (R137). -/
def State.canCreate (s : State) : Bool := s.freeSlot.isSome || s.evictee.isSome

/-- Evict an entry (R137): its amounts are counted and reported when it held any. The notice's number of entries is taken
with the evicted entry gone and the new one not yet created (DESIGN CHOICE, log 56). -/
def State.evict (s : State) (e : Entry) : State :=
  let s1 := s.dropEntry e.data.serial
  if e.data.owed = 0 ∧ e.data.inDoubt = 0 then s1
  else s1.loseInk .evicted e.data.serial e.data.owed e.data.inDoubt 0

/-! ## Stamps (R135) -/

/-- The greatest stamp. -/
def maxStamp : Nat := 2 ^ 32 - 1

/-- Restamp the table 1 to n, the least recent 1, marking each entry dirty from write time `t` on, the least recent first
(R135, R141; the order of the writes is DESIGN CHOICE, log 57). -/
def renumber (t : Nat) : List Entry → List Entry
  | [] => []
  | e :: es => ({ e with data := { e.data with stamp := es.length + 1 } }.touch (t + es.length)) :: renumber t es

/-- Renumber the table when the link-up sequence number would pass its end (R135). -/
def State.readyStamp (s : State) : State :=
  if s.hist.linkSeq < maxStamp then s
  else
    { s with hist := { s.hist with
        table := renumber s.hist.writeOrder s.hist.table
        writeOrder := s.hist.writeOrder + s.hist.table.length
        linkSeq := s.hist.table.length + 1 } }

/-! ## Lookup and creation (R136) -/

/-- An entry just created, dirty (R136, R140). -/
def newEntry (i : Identity) (slot : SlotId) (b : BayId) (pin : Option BayId) (confirmed owed stamp t : Nat) :
    Entry where
  data :=
    { serial := i.serial, colour := i.colour, keyGen := i.keyGen, nominalMl := i.nominalMl
      confirmed := confirmed, owed := owed, inDoubt := 0, score := 0, verdict := .clean
      countedOutSeen := false, probeEmptySeen := false, marked := false, rejected := false
      lastBay := b, stamp := stamp }
  slot := slot
  pin := pin
  dirty := some t
  saving := false
  rewrite := none
  pfSave := false

/-- Put an entry at the front with the current stamp and take the next number (R135). -/
def State.pushEntry (s : State) (mk : Nat → Nat → Entry) : State :=
  { s with hist := { s.hist with
      table := mk s.hist.linkSeq s.hist.writeOrder :: s.hist.table
      linkSeq := s.hist.linkSeq + 1
      writeOrder := s.hist.writeOrder + 1 } }

/-- Create an entry, evicting one first when no slot is free (R136, R137); none when neither can be had. Where a
renumbering is due as well, the eviction comes first and the entries left are renumbered (DESIGN CHOICE, log 43). -/
def State.createEntry (s : State) (i : Identity) (b : BayId) (pin : Option BayId) (confirmed owed : Nat) :
    Option State :=
  match s.freeSlot with
  | some sl => some (s.readyStamp.pushEntry (newEntry i sl b pin confirmed owed))
  | none =>
    match s.evictee with
    | some e => some ((s.evict e).readyStamp.pushEntry (newEntry i e.slot b pin confirmed owed))
    | none => none

/-- Stamp a found entry, move it to the front, and pin it (R135, R136). -/
def State.takeEntry (s : State) (serial : Word64) (b : BayId) : State :=
  let s1 := s.readyStamp
  match s1.entryOf? serial with
  | none => s1
  | some e =>
    let rest := s1.hist.table.filter (fun x => x.data.serial != serial)
    let t := s1.hist.writeOrder
    let e1 := { e with data := { e.data with stamp := s1.hist.linkSeq, lastBay := b }, pin := some b }.touch t
    { s1 with hist := { s1.hist with
        table := e1 :: rest
        linkSeq := s1.hist.linkSeq + 1
        writeOrder := t + 1 } }

/-! ## Release (R18, R140) -/

/-- Clear an entry's pin; it leaves class 2 (R140, R175). -/
def Entry.unpin (e : Entry) : Entry := { e with pin := none, pfSave := false }

/-- Ink of a bay that pins nothing goes to an entry of its serial, to a new one, or to LOST_OWED (R140). -/
def State.carryOrphan (s : State) (b : BayId) (i : Identity) (amount : Nat) : State :=
  if amount = 0 then s
  else
    match s.entryOf? i.serial with
    | some e =>
      if e.pin.isSome then s.loseInk .unrecorded i.serial 0 0 amount
      else s.writeEntry i.serial (Entry.withData (fun d => { d with owed := sat48 (d.owed + amount) }))
    | none =>
      match s.createEntry i b none 0 amount with
      | some s1 => s1
      | none => s.loseInk .unrecorded i.serial 0 0 amount

/-- Release the cartridge a bay holds (R18 step 2, R140): refresh and unpin its entry, or carry its ink. -/
def State.releaseCartridge (s : State) (b : BayId) : State :=
  match (s.bay b).identity with
  | none => s
  | some i =>
    match s.pinnedBy b with
    | some e => (s.refresh b).writeEntry e.data.serial Entry.unpin
    | none => s.carryOrphan b i (s.bay b).owing

end Sys2Proof.Machine
end

