-- ==== Sys2Proof/Machine/Bus.lean ====
section
/-! DEFINITION. The segment controllers' queues, arbiters and frames (R25 to R45): queuing work, eligibility, the
arbiter's choice, the frame it sends, and how a reply is judged. What a transaction's end does to its owner is in
Transactions.lean. -/

namespace Sys2Proof.Machine

/-! ## Queuing (R26, R34) -/

/-- A new entry (R34). -/
def newBusEntry (b : BayId) (k : EntryClass) (op : BusOp) (step : Option LinkStep) (t : Nat) : BusEntry where
  bay := b
  cls := k
  op := op
  linkStep := step
  enqueued := t
  attempts := 0
  recoded := false
  state := .waiting
  awaitRecode := none
  sent := false
  split := none
  drawn := none
  released := false

/-- Queue an entry for a bay on its segment. -/
def State.enqueue (s : State) (b : BayId) (k : EntryClass) (op : BusOp) (step : Option LinkStep) : State :=
  s.modSeg (baySeg b) (fun g => { g with queue := g.queue ++ [newBusEntry b k op step s.now] })

/-- Whether an entry is a given bay's entry of a class. -/
def BusEntry.isFor (e : BusEntry) (b : BayId) (k : EntryClass) : Bool := e.bay == b && e.cls == k

/-- Take a bay's entry of a class out of its queue. -/
def State.dequeue (s : State) (b : BayId) (k : EntryClass) : State :=
  s.modSeg (baySeg b) (fun g => { g with queue := g.queue.filter (fun e => !e.isFor b k) })

/-- Change a bay's entry of a class. -/
def State.modEntry (s : State) (b : BayId) (k : EntryClass) (f : BusEntry → BusEntry) : State :=
  s.modSeg (baySeg b) (fun g => { g with queue := g.queue.map (fun e => if e.isFor b k then f e else e) })

/-- Ask for a SET CODE (R26): a waiting entry meets the request. -/
def State.askSetCode (s : State) (g : Segment) (fromPoll : Bool) : State :=
  s.modSeg g (fun c =>
    { c with setCode := some ⟨fromPoll || (match c.setCode with | some e => e.fromPoll | none => false)⟩ })

/-- A bay enters link-up step 1 (R9): it waits for a SET CODE that begins from now on. -/
def State.askStepOne (s : State) (b : BayId) : State :=
  (s.askSetCode (baySeg b) false).modSeg (baySeg b) (fun g => { g with stepOne := g.stepOne ++ [b] })

/-! ## Eligibility (R36, R45) -/

/-- A bay has a split write outstanding on a segment. -/
def SegCtl.splitOn (g : SegCtl) (b : BayId) : Bool := g.queue.any (fun e => e.bay == b && e.split.isSome)

/-- A bay entry is eligible (R36). -/
def State.eligible (s : State) (g : SegCtl) (e : BusEntry) : Bool :=
  match e.state with
  | .pollDue => true
  | .onBus => false
  | .waiting =>
    g.code ≠ 0 && !g.splitOn e.bay && e.awaitRecode.isNone && !s.powerFail &&
      (match e.op with | .challenge => s.challenge.block == .reserved | _ => true)

/-- The SET CODE entry waits and is eligible (R36, R45). -/
def State.setCodeEligible (s : State) (g : SegCtl) : Bool :=
  match g.setCode with
  | none => false
  | some e => !s.powerFail || e.fromPoll

/-- The entry is aged (R37). -/
def State.aged (s : State) (e : BusEntry) : Bool := s.ageLimit * 1000 ≤ s.now - e.enqueued

/-- The arbiter's choice among bay entries by tests 2 to 4 of R37. The queue is in enqueue order, so the first that
fits has the earliest enqueue time. -/
def State.chooseEntry (s : State) (g : SegCtl) : Option BusEntry :=
  let el := g.queue.filter (fun e => s.eligible g e)
  match el.find? (fun e => e.state == .pollDue) with
  | some e => some e
  | none =>
    match el.find? (fun e => s.aged e) with
    | some e => some e
    | none =>
      match el.find? (fun e => e.cls == .setup) with
      | some e => some e
      | none =>
        match el.find? (fun e => e.cls == .meter) with
        | some e => some e
        | none => el.find? (fun e => e.cls == .service)

/-! ## Sending a frame (R25, R27, R28) -/

/-- The segment's next code (R25): from 255 to 1. -/
def nextCode (c : Byte) : Byte := if c = 255 then 1 else c + 1

/-- Take the SET CODE entry (R25, R26): the code moves and its frame begins. -/
def State.sendSetCode (s : State) (g : Segment) : State :=
  s.modSeg g (fun c =>
    let code := nextCode c.code
    let bytes := busFrameBytes code 15 0 c.frameSeq []
    { c with
      code := code
      frameSeq := c.frameSeq + 1
      setCode := none
      stepOne := []
      exchange := some
        { what := .setCode c.stepOne, bytes := bytes, code := code, slot := 15, seq := c.frameSeq, nonce := 0
          endsAt := s.now + Config.busByteUs * bytes.length, window := none, abandoned := false } })

/-- The argument bytes of an operation's frame (R180). -/
def BusEntry.args (e : BusEntry) (nonce : Nonce) : List Byte :=
  match e.op with
  | .ident | .mark => []
  | .readBlock n => [u8 n]
  | .writeBlock n d => u8 n :: d
  | .advance =>
    match e.drawn with
    | some w => leBytes 4 w.delta ++ leBytes 4 w.seq.toNat
    | none => leBytes 4 0 ++ leBytes 4 0
  | .challenge => leBytes 6 nonce.toNat

/-- The frame of a taken entry begins (R28): a POLL when it was POLL_DUE, its operation otherwise. -/
def State.sendEntry (s : State) (e : BusEntry) (nonce : Nonce) : State :=
  let poll := e.state == .pollDue
  let s1 := s.modEntry e.bay e.cls (fun x => { x with state := .onBus, sent := true })
  s1.modSeg (baySeg e.bay) (fun c =>
    let bytes :=
      if poll then busFrameBytes c.code (baySlot e.bay) pollCode c.frameSeq []
      else busFrameBytes c.code (baySlot e.bay) e.op.code c.frameSeq (e.args nonce)
    { c with
      frameSeq := c.frameSeq + 1
      exchange := some
        { what := .entry e.bay e.cls poll, bytes := bytes, code := c.code, slot := baySlot e.bay
          seq := c.frameSeq, nonce := nonce, endsAt := s.now + Config.busByteUs * bytes.length
          window := none, abandoned := false } })

/-- The first take of a METER entry draws the advance (R84). -/
def State.drawAdvance (s : State) (b : BayId) : State :=
  let v := s.bay b
  let delta := min v.owing Config.max32
  let seq := v.advSeq + 1
  (s.modBay b (fun v => { v with owing := v.owing - delta, inFlight := delta, advSeq := seq })).modEntry b .meter
    (fun e => { e with drawn := some ⟨delta, seq, v.identity.map Identity.serial⟩ })

/-- After a draw, a used-up block asks for the next reservation, or the counter is exhausted (R56, R57). -/
def State.afterDraw (s : State) : State :=
  if s.challenge.next = s.challenge.blockEnd then
    if s.challenge.blockEnd = Config.challengeEnd then
      { s with challenge := { s.challenge with block := .exhausted } }
    else
      { s with
        challenge := { s.challenge with block := .reserving }
        hist := { s.hist with
          keySaves := s.hist.keySaves ++ [.reserve (s.challenge.blockEnd + Config.challengeBlock)] } }
  else s

/-- Draw a nonce (R56): the next value goes to the attempt and the counter moves on. -/
def State.drawNonce (s : State) : State :=
  State.afterDraw { s with challenge := { s.challenge with next := s.challenge.next + 1 } }

/-- The nonce the next draw gives (R54). -/
def State.nextNonce (s : State) : Nonce := BitVec.ofNat 48 s.challenge.next

/-- The arbiter takes a bay entry (R37): an ADVANCE is drawn at its first take, each attempt of a CHALLENGE draws
its nonce, and the frame begins. -/
def State.takeBusEntry (s : State) (e : BusEntry) : State :=
  if e.state == .pollDue then s.sendEntry e 0
  else
    match e.op with
    | .challenge => (s.sendEntry e s.nextNonce).drawNonce
    | .advance =>
      if e.drawn.isSome then s.sendEntry e 0
      else
        let s1 := s.drawAdvance e.bay
        s1.sendEntry ((s1.busEntry e.bay e.cls).getD e) 0
    | _ => s.sendEntry e 0

/-! ## Replies (R28, R29) -/

/-- A reply's first bytes, as far as they are there, carry the exchange's code, slot and sequence byte (R28). -/
def Exchange.matchesReply (x : Exchange) (bytes : List Byte) : Bool :=
  match bytes with
  | [] => false
  | [c] => c == x.code
  | [c, h] => c == x.code && h.toNat / 16 == x.slot
  | c :: h :: q :: _ => c == x.code && h.toNat / 16 == x.slot && q == x.seq

/-- The result of an attempt (R29). -/
inductive Attempt where
  | success (data : List Byte)
  | accepted
  | refused
  | failed
  | busy
  | malformed
  deriving DecidableEq, Repr

/-- A reply's kind, from bits 0 to 3 of its byte 1 (R180). -/
def replyKindOf (bytes : List Byte) : Option ReplyKind := ReplyKind.ofCode ((byteAt bytes 1).toNat % 16)

/-- Judge a reply against the operation its frame carried (R29): its length, its CRC, and its kind. -/
def judgeReply (op : BusOp) (poll : Bool) (bytes : List Byte) : Attempt :=
  match replyKindOf bytes with
  | none => .malformed
  | some k =>
    match replyLength op poll k with
    | none => .malformed
    | some n =>
      let fr := bytes.take n
      if fr.length ≠ n then .malformed
      else if crc8 (fr.take (n - 1)) ≠ byteAt fr (n - 1) then .malformed
      else
        match k with
        | .done => .success (slice fr 3 (n - 4))
        | .accepted => .accepted
        | .refused => .refused
        | .failed => .failed
        | .busy => .busy

end Sys2Proof.Machine
end

