-- ==== Sys2Proof/Machine/ChannelUnit.lean ====
section
/-! DEFINITION. The Channel Unit (R101 to R107, R114): changeover, starvation, and the choice of a bay. -/

namespace Sys2Proof.Machine

/-- Start a bay's write-back timer for its channel's interval (R82). -/
def State.startWriteBack (s : State) (b : BayId) : State :=
  match s.bayConfig b with
  | some c => s.modBay b (fun v => { v with writeBackAt := some (s.now + c.intervalS * 1000000) })
  | none => s

/-- The time at which a channel's valve switch timer expires when started now (R102). -/
def State.switchDue (s : State) (c : ChanId) : Nat :=
  match (s.chan c).config with
  | some k => s.now + k.switchTens * 10000
  | none => s.now

/-- The active bay other than the target goes from ACTIVE to READY (R102 step 1). -/
def State.leaveActive (s : State) (b : BayId) : State :=
  if (s.bay b).state = .active then s.modBay b (fun v => { v with state := .ready }) else s

/-- A READY bay goes to ACTIVE. -/
def State.readyToActive (s : State) (b : BayId) : State :=
  if (s.bay b).state = .ready then s.modBay b (fun v => { v with state := .active }) else s

/-- The target goes from READY to ACTIVE, and its write-back timer starts unless it is LOST (R102 step 2). -/
def State.enterActive (s : State) (b : BayId) : State :=
  if (s.bay b).state = .lost then s.readyToActive b else (s.readyToActive b).startWriteBack b

/-- Raise a BAY notice when a bay's state differs from what it was (R22). -/
def State.noteBay (s : State) (b : BayId) (was : BayState) : State :=
  if (s.bay b).state = was then s else s.raise (.bay b)

/-- The bay a changeover leaves: the active bay other than the target (R102 step 1). -/
def Channel.leaves (h : Channel) (target : Side) : Option Side :=
  match h.active with
  | some sd => if sd = target then none else some sd
  | none => none

/-- The channel record a changeover gives (R102 steps 1 to 5). -/
def Channel.change (h : Channel) (target : Side) (due : Nat) : Channel :=
  { h with
    state := .changing
    active := some target
    former := h.leaves target
    valve := target
    causes := { h.causes with changing := true, starved := false }
    switchAt := some due }

/-- The active bay that a changeover leaves goes from ACTIVE to READY (R102 step 1). -/
def State.leaveOld (s : State) (c : ChanId) (target : Side) : State :=
  match (s.chan c).leaves target with
  | some sd => s.leaveActive (sideBay c sd)
  | none => s

/-- The BAY notice of the bay that a changeover left, when its state changed (R102 step 6). -/
def State.noteOld (s before : State) (c : ChanId) (target : Side) : State :=
  match (before.chan c).leaves target with
  | some sd => s.noteBay (sideBay c sd) (before.bay (sideBay c sd)).state
  | none => s

/-- A changeover to a target bay (R102). -/
def State.changeover (s : State) (c : ChanId) (target : Side) : State :=
  let moved := ((s.leaveOld c target).enterActive (sideBay c target)).setChan c
    ((s.chan c).change target (s.switchDue c))
  ((moved.raise (.channel c)).noteOld s c target).noteBay (sideBay c target) (s.bay (sideBay c target)).state

/-- The channel record that entry to STARVED gives (R106). -/
def Channel.starve (h : Channel) : Channel :=
  { h with
    state := .starved
    active := none
    former := none
    switchAt := none
    causes :=
      { h.causes with
        changing := false
        starved := true
        latch := h.causes.latch ||
          (h.everServed && (match h.config with | some k => k.restartMode == .host | none => false)) } }

/-- The channel enters STARVED (R106). -/
def State.enterStarved (s : State) (c : ChanId) : State :=
  (s.setChan c (s.chan c).starve).raise (.channel c)

/-- The side a STARVED channel takes (R107): higher rank, then lower remaining, then A. -/
def State.starvedPick (s : State) (c : ChanId) : Option Side :=
  let ra := (s.rank c .a).level
  let rb := (s.rank c .b).level
  if ra = 0 ∧ rb = 0 then none
  else if ra > rb then some .a
  else if rb > ra then some .b
  else if (s.bay (sideBay c .b)).remaining < (s.bay (sideBay c .a)).remaining then some .b
  else some .a

/-- A choice for a channel (R101): R103 when it has an active bay, R107 when it is STARVED. -/
def State.choose (s : State) (c : ChanId) : State :=
  match (s.chan c).state with
  | .unconfigured => s
  | .starved =>
    match s.starvedPick c with
    | some sd => s.changeover c sd
    | none => s
  | .serving | .changing =>
    match (s.chan c).active with
    | none => s
    | some sd =>
      let ra := (s.rank c sd).level
      let rp := (s.rank c (otherSide sd)).level
      if ra < rp then s.changeover c (otherSide sd)
      else if ra = 0 then s.enterStarved c
      else s

/-- The Channel Unit is told that a bay's rank may have changed (R101). -/
def State.tellChannel (s : State) (b : BayId) : State := s.choose (bayChan b)

/-- A removed bay that is its channel's former bay is cleared from the record (R114). -/
def State.clearFormer (s : State) (b : BayId) : State :=
  let c := bayChan b
  if (s.chan c).former = some (baySide b) then
    (s.modChan c (fun h => { h with former := none })).raise (.channel c)
  else s

/-- The Channel Unit is told of a removal (R114): a former bay is cleared, and a choice is made. -/
def State.tellRemoved (s : State) (b : BayId) : State :=
  (s.clearFormer b).choose (bayChan b)

end Sys2Proof.Machine
end

