-- ==== Sys2Proof/Machine/BayWork.lean ====
section
/-! DEFINITION. What other units' events do to a bay's bus work: the end of a CART READ or CART WRITE block (R33,
R164, R165), the in-flight figure (R85), the clearing of work on a move to LOST (R16, R43), the write-back trigger
(R83), the MARK and re-challenge requests (R35, R64, R129), and the link-up's start (R8, R9). -/

namespace Sys2Proof.Machine

/-- Write a bay's last bus outcome (R42). -/
def State.noteOutcome (s : State) (b : BayId) (o : BusOutcome) : State :=
  s.modBay b (fun v => { v with lastOutcome := some o })

/-! ## SERVICE work (R30, R33, R164, R165) -/

/-- The result code for an outcome other than OK (R164, R165). -/
def cartResult : BusOutcome → Result
  | .ok => .ok
  | .refused | .failed => .cartRefused
  | .noReply | .busyTimeout | .malformed => .noReply
  | .removed => .notPresent

/-- A bay's SERVICE transaction ends: the request is answered, or its next block is queued. -/
def State.serviceEnd (s : State) (b : BayId) (o : BusOutcome) (data : List Byte) : State :=
  match s.link.waiting with
  | some (.cartRead b1 block) =>
    if b1 ≠ b then s
    else if o = .ok then s.finishRequest .ok (u8 b.val :: u8 block :: data) false
    else s.finishRequest (cartResult o) [] false
  | some (.cartWrite b1 n rest) =>
    if b1 ≠ b then s
    else if o = .ok then
      match rest with
      | [] => s.finishRequest .ok [u8 b.val, u8 (n + 1), 0xFF] false
      | (block, d) :: more =>
        ({ s with link := { s.link with waiting := some (.cartWrite b (n + 1) more) } }).enqueue b .service
          (.writeBlock block d) none
    else s.finishRequest (if n = 0 then cartResult o else .someWritten) [u8 b.val, u8 n, o.code] false
  | _ => s

/-! ## The in-flight figure (R85) -/

/-- In-flight returns to pending. -/
def Bay.returnInFlight (v : Bay) : Bay := { v with owing := fit48 (v.owing + v.inFlight), inFlight := 0 }

/-- In-flight is added to doubt and cleared. -/
def Bay.doubtInFlight (v : Bay) : Bay := { v with doubt := fit48 (v.doubt + v.inFlight), inFlight := 0 }

/-! ## Moves to LOST (R16, R43) -/

/-- The METER work of a bay that goes to LOST (R43): deleted unsent, or ended with its in-flight back in pending. -/
def State.clearLostMeter (s : State) (b : BayId) : State :=
  match s.busEntry b .meter with
  | none => s
  | some e =>
    if e.state ≠ .waiting ∨ e.split.isSome then s
    else if e.sent then
      let s1 := (s.dequeue b .meter).noteOutcome b .noReply
      if e.released then s1 else s1.modBay b Bay.returnInFlight
    else s.dequeue b .meter

/-- The SERVICE work of a bay that goes to LOST ends NO_REPLY (R43). -/
def State.clearLostService (s : State) (b : BayId) : State :=
  match s.busEntry b .service with
  | none => s
  | some e =>
    if e.state ≠ .waiting ∨ e.split.isSome then s
    else ((s.dequeue b .service).noteOutcome b .noReply).serviceEnd b .noReply []

/-- A link-up whose step failed ends (R8, R16): no step, no observed counter, and the link-lost flag set. -/
def Bay.endLink (v : Bay) : Bay := { v with step := none, observed := none, linkLost := true }

/-- No exchange is in progress (R59, R65); the mismatch count stands until the next exchange begins (log 41). -/
def Bay.dropExchange (v : Bay) : Bay := { v with ctx := { v.ctx with exchange := .none } }

/-- The entry serves the step that the bay's link-up is in. -/
def Bay.servedBy (v : Bay) (e : BusEntry) : Bool := v.step.isSome && e.linkStep == v.step

/-- The SETUP work of a bay that goes to LOST ends NO_REPLY: the link-up it serves ends with it (R8, R16, log 18), and
a re-challenge clears its exchange (R43, R65). -/
def State.clearLostSetup (s : State) (b : BayId) : State :=
  match s.busEntry b .setup with
  | none => s
  | some e =>
    if e.state ≠ .waiting ∨ e.split.isSome then s
    else
      let s1 := (s.dequeue b .setup).noteOutcome b .noReply
      if (s.bay b).servedBy e then s1.modBay b (fun v => v.endLink.dropExchange)
      else if e.op = .challenge then s1.modBay b Bay.dropExchange
      else s1

/-- The segment clears a bay's pending work on a move to LOST, and drops its waiting SETUP requests (R43). -/
def State.clearLostWork (s : State) (b : BayId) : State :=
  (((s.clearLostMeter b).clearLostService b).clearLostSetup b).modBay b
    (fun v => { v with waitRechallenge := false, waitMark := false })

/-- The bay record of a move to LOST (R16, R17): the write-back timer stops, the owed flag clears (R64), and the relink
timer starts. -/
def Bay.toLost (v : Bay) (relinkDue : Nat) : Bay :=
  { v with
    state := .lost
    refusal := none
    writeBackAt := none
    relinkAt := some relinkDue
    ctx := { v.ctx with owed := false } }

/-- A bay goes to LOST on a failed transaction (R16, R43). -/
def State.goLost (s : State) (b : BayId) : State :=
  let s1 := s.modBay b (fun v => v.endLink.toLost (s.now + Config.relinkUs))
  ((s1.clearLostWork b).raise (.bay b)).tellChannel b

/-- A failed link-up of a bay refused meanwhile ends the link-up and leaves the bay REFUSED (R16, log 18). -/
def State.failRefusedRelink (s : State) (b : BayId) : State :=
  s.modBay b Bay.endLink

/-- A link-up transaction fails (R8, R16, R59). -/
def State.linkFail (s : State) (b : BayId) : State :=
  let s1 := s.modBay b Bay.dropExchange
  if (s.bay b).step.isNone then s1
  else if (s.bay b).state = .refused then s1.failRefusedRelink b
  else s1.goLost b

/-- A transaction that serves no link-up step ends NO_REPLY (R16). -/
def State.handleNoReply (s : State) (b : BayId) : State :=
  match (s.bay b).state with
  | .linking | .ready | .active => s.goLost b
  | .spent => s.modBay b (fun v => { v with linkLost := true })
  | _ => s

/-! ## The write-back trigger (R83) -/

/-- The conditions of R83 on the bay and its queue. -/
def State.mayWriteBack (s : State) (b : BayId) : Bool :=
  let v := s.bay b
  v.identity.isSome && v.step.isNone && v.state != .lost && v.auth == .genuine && (s.busEntry b .meter).isNone

/-- The quantum is reached, or the timer has just expired with something pending (R83). -/
def State.writeBackDue (s : State) (b : BayId) (expired : Bool) : Bool :=
  match s.bayConfig b with
  | some c => c.quantumMl * Config.nlPerMl ≤ (s.bay b).owing || (expired && (s.bay b).owing > 0)
  | none => false

/-- Evaluate the write-back trigger (R83). -/
def State.writeBackTrigger (s : State) (b : BayId) (expired : Bool) : State :=
  if s.mayWriteBack b && s.writeBackDue b expired then s.enqueue b .meter .advance none else s

/-- Delete a METER entry that has not sent its write frame (R66); its end starts the timer (R82, R85). -/
def State.withdrawMeter (s : State) (b : BayId) : State :=
  match s.busEntry b .meter with
  | some e =>
    if e.sent then s
    else
      let s1 := s.dequeue b .meter
      if (s.bay b).state = .lost then s1 else s1.startWriteBack b
  | none => s

/-- Delete a MARK entry that has not sent its write frame (R66). -/
def State.withdrawMark (s : State) (b : BayId) : State :=
  match s.busEntry b .setup with
  | some e => if e.op = .mark ∧ ¬ e.sent then s.dequeue b .setup else s
  | none => s

/-- What leaving GENUINE withdraws (R64, R66). -/
def State.leaveGenuine (s : State) (b : BayId) : State :=
  ((s.withdrawMeter b).withdrawMark b).modBay b
    (fun v => { v with waitMark := false, waitRechallenge := false, ctx := { v.ctx with owed := false } })

/-- Move a bay's authentication state (R58); leaving GENUINE withdraws work (R66). -/
def State.setAuth (s : State) (b : BayId) (a : AuthState) : State :=
  let s1 := s.modBay b (fun v => { v with auth := a })
  if (s.bay b).auth = .genuine ∧ a ≠ .genuine then s1.leaveGenuine b else s1

/-! ## Re-challenges and marks (R35, R64, R65, R129) -/

/-- The master key that a bay's identity names (R53). -/
def State.masterKey (s : State) (b : BayId) : Option Key :=
  match (s.bay b).identity with
  | some i => s.store.keys[i.keyGen.toNat]
  | none => none

/-- The cartridge key derived afresh for a bay (R53). -/
def State.derivedKey (s : State) (b : BayId) : Option Key :=
  match s.masterKey b, (s.bay b).identity with
  | some master, some i => some (cartridgeKey master i.serial)
  | _, _ => none

/-- Begin a challenge exchange on a bay (R59, R65): key derived afresh, no mismatch, a CHALLENGE queued. -/
def State.beginExchange (s : State) (b : BayId) (x : Exchange3) (step : Option LinkStep) : State :=
  (s.modBay b (fun v =>
    { v with ctx := { v.ctx with key := s.derivedKey b, exchange := x, mismatches := 0 } })).enqueue b .setup
    .challenge step

/-- Ask the segment for a re-challenge (R64, R65): queued when the SETUP entry is free, held otherwise (R35). -/
def State.askRecheck (s : State) (b : BayId) : State :=
  if (s.busEntry b .setup).isNone then s.beginExchange b .recheck none
  else s.modBay b (fun v => { v with waitRechallenge := true })

/-- A re-challenge of the bay would be dropped (R64). -/
def State.dropsRecheck (s : State) (b : BayId) : Bool :=
  let v := s.bay b
  v.auth != .genuine || v.identity.isNone || v.state == .lost || v.step.isSome || s.challenge.block == .exhausted

/-- A re-challenge is asked for on a bay (R64). -/
def State.requestRecheck (s : State) (b : BayId) : State :=
  let v := s.bay b
  if s.dropsRecheck b then s
  else if v.ctx.exchange = .recheck ∨ v.ctx.owed ∨ v.waitRechallenge then s
  else if v.doubt ≠ 0 ∨ v.inFlight ≠ 0 then s.modBay b (fun v => { v with ctx := { v.ctx with owed := true } })
  else s.askRecheck b

/-- An owed re-challenge is asked for once doubt and in-flight are both 0 (R64, R85). -/
def State.settleOwed (s : State) (b : BayId) : State :=
  let v := s.bay b
  if v.ctx.owed ∧ v.doubt = 0 ∧ v.inFlight = 0 then
    (s.modBay b (fun v => { v with ctx := { v.ctx with owed := false } })).requestRecheck b
  else s

/-- A MARK is asked for outside link-up (R35, R129): queued when the SETUP entry is free, held otherwise. -/
def State.askMark (s : State) (b : BayId) : State :=
  if (s.busEntry b .setup).isNone then s.enqueue b .setup .mark none
  else s.modBay b (fun v => { v with waitMark := true })

/-- The conditions of R129 for a MARK outside link-up. -/
def State.mayMark (s : State) (b : BayId) : Bool :=
  match s.pinnedBy b with
  | some e =>
    let v := s.bay b
    !e.data.marked && v.auth == .genuine && v.step.isNone && v.state != .lost
  | none => false

/-- The bay's SETUP entry has ended (R35, R42): an IDENT a link-up waits to queue goes first (log 22), then a waiting
re-challenge, then a waiting MARK of a GENUINE bay. -/
def State.releaseSetup (s : State) (b : BayId) : State :=
  let v := s.bay b
  if (s.busEntry b .setup).isSome then s
  else if v.step = some .ident then s.enqueue b .setup .ident (some .ident)
  else if v.waitRechallenge && !s.dropsRecheck b then
    (s.modBay b (fun v => { v with waitRechallenge := false })).beginExchange b .recheck none
  else
    let s1 := s.modBay b (fun v => { v with waitRechallenge := false, waitMark := false })
    if v.waitMark && v.auth == .genuine then s1.enqueue b .setup .mark none else s1

/-! ## The start of a link-up (R8, R9) -/

/-- The bay record at link-up step 1 (R8, R35, R64). -/
def Bay.startLink (v : Bay) : Bay :=
  { v with
    step := some .setCode
    advSeq := 0
    writeBackAt := none
    waitRechallenge := false
    waitMark := false
    ctx := { v.ctx with owed := false } }

/-- A link-up begins at step 1 (R8, R9). -/
def State.startLinkUp (s : State) (b : BayId) : State := (s.modBay b Bay.startLink).askStepOne b

/-- A first link-up: the bay goes to LINKING (R7, R8, R22). -/
def State.startFirstLink (s : State) (b : BayId) : State :=
  State.startLinkUp ((s.modBay b (fun v => { v with state := .linking })).raise (.bay b)) b

end Sys2Proof.Machine
end

