-- ==== Sys2Proof/Machine/Refill.lean ====
section
/-! DEFINITION. The Refill Unit and the bay's policy test (R17, R117 to R129), the level tests (R91, R92), the
overdraw examination (R127), and the probe rules (R20, R21, R125). -/

namespace Sys2Proof.Machine

/-! ## The policy test (R17) -/

/-- The refusal a bay's standing calls for under its channel's policies (R17). -/
def refusalDue (c : Settings) (v : Bay) : Option RefusalReason :=
  if v.auth = .rejected ∧ c.nonGenuine = .refuse then some .rejected
  else if v.auth = .unverifiable ∧ c.nonGenuine = .refuse then some .unverifiable
  else if v.verdict = .refilled ∧ c.refill = .refuse then some .refilled
  else none

/-- Refuse a bay (R17): state and reason, the relink timer stopped, notice, and `tell`, the report to the Channel
Unit. -/
def State.refuseBay (tell : State → BayId → State) (s : State) (b : BayId) (r : RefusalReason) : State :=
  tell ((s.modBay b (fun v => { v with state := .refused, refusal := some r, relinkAt := none })).raise (.bay b)) b

/-- Ink absent makes a bay SPENT (R20 steps 1 to 3): relink timer stopped, probe-empty-seen set, SHORT raised. -/
def State.spendBay (s : State) (b : BayId) : State :=
  let s1 := s.modBay b (fun v =>
    { v with state := .spent, refusal := none, relinkAt := none, probeEmptySeen := true })
  if (s.bay b).short then s1.raise (.level b .short .raised) else s1

/-- A PROBE_RETURN is due on a bay (R125). -/
def Bay.returnDue (v : Bay) : Bool := v.probe == .inkPresent && v.probeEmptySeen

/-- A bay goes to LOST by the lifting of a refusal or by a probe return (R17, R21): the relink timer starts, its pending
work is cleared (R43), and an IDENT that a running link-up waits to queue goes out (R35, log 22). -/
def State.returnToLost (s : State) (b : BayId) : State :=
  ((s.modBay b (fun v => v.toLost (s.now + Config.relinkUs))).clearLostWork b).releaseSetup b

/-- Lift a policy refusal (R17): to LOST, SPENT or READY; `pr` scores a PROBE_RETURN (R125). -/
def State.liftRefusal (tell pr : State → BayId → State) (s : State) (b : BayId) : State :=
  let v := s.bay b
  let s1 :=
    if v.linkLost then
      let s2 := s.returnToLost b
      if v.returnDue && v.identity.isSome then pr s2 b else s2
    else if v.probe = .inkAbsent then
      if v.probeEmptySeen then s.modBay b (fun v => { v with state := .spent, refusal := none }) else s.spendBay b
    else
      let s2 := s.modBay b (fun v => { v with state := .ready, refusal := none })
      if v.returnDue then pr s2 b else s2
  tell (s1.raise (.bay b)) b

/-- The policy test of a bay (R17). -/
def State.policyTestWith (tell pr : State → BayId → State) (s : State) (b : BayId) : State :=
  match s.bayConfig b with
  | none => s
  | some c =>
    let v := s.bay b
    match v.state with
    | .ready | .active | .spent | .lost =>
      if v.identity.isSome then
        match refusalDue c v with
        | some r => s.refuseBay tell b r
        | none => s
      else s
    | .refused =>
      if v.refusal = some .rejected ∨ v.refusal = some .unverifiable ∨ v.refusal = some .refilled then
        match refusalDue c v with
        | some r =>
          if v.refusal = some r then s
          else tell ((s.modBay b (fun v => { v with refusal := some r })).raise (.bay b)) b
        | none => s.liftRefusal tell pr b
      else s
    | _ => s

/-! ## Verdicts and scoring (R119, R120, R128) -/

/-- The verdict a score stands at (R120). -/
def State.scoreVerdict (s : State) (score : Nat) : Verdict :=
  if s.refillThreshold ≤ score then .refilled
  else if s.doubtThreshold ≤ score then .doubt
  else .clean

/-- The held verdict after an evaluation (R120): it never moves lower. -/
def Verdict.raisedTo (held new : Verdict) : Verdict := if held.rank < new.rank then new else held

/-- Evaluate the verdict of the entry a bay pins (R120) and do what a change does (R128 steps 1 to 4); `pt` is the
policy test. -/
def State.evaluateWith (tell pt : State → BayId → State) (s : State) (b : BayId) : State :=
  match s.pinnedBy b with
  | none => s
  | some e =>
    let new := s.scoreVerdict e.data.score
    if e.data.verdict.rank < new.rank then
      let s1 := s.writeEntry e.data.serial (Entry.withData (fun d => { d with verdict := new }))
      let s2 := (s1.modBay b (fun v => { v with verdict := new })).refresh b
      let s3 := tell (pt s2 b) b
      if new = .refilled ∧ s3.mayMark b then s3.askMark b else s3
    else s

/-- One scoring on the cartridge a bay pins (R119): score, verdict, notice. A bay that pins nothing scores nothing
(R118). -/
def State.scoreWith (tell pt : State → BayId → State) (s : State) (b : BayId) (kind : EvidenceKind)
    (points steps : Nat) : State :=
  match s.pinnedBy b with
  | none => s
  | some e =>
    let score := min 255 (e.data.score + points)
    let s1 := s.writeEntry e.data.serial (Entry.withData (fun d =>
      { d with score := score, probeEmptySeen := d.probeEmptySeen && kind != .probeReturn }))
    let s2 := s1.modBay b (fun v => { v with score := score })
    let new := e.data.verdict.raisedTo (s.scoreVerdict score)
    (s2.evaluateWith tell pt b).raise
      (.verdict b ⟨some e.data.serial, kind, points, score, new, e.data.verdict.rank < new.rank, steps⟩)

/-- Score a PROBE_RETURN (R125): the flag is cleared first, so that the policy test the scoring may run finds no
further return due and needs no scoring of its own. -/
def State.probeReturnWith (tell : State → BayId → State) (s : State) (b : BayId) : State :=
  (s.modBay b (fun v => { v with probeEmptySeen := false })).scoreWith tell
    (State.policyTestWith tell (fun t _ => t)) b .probeReturn 16 0

/-- Score a PROBE_RETURN, each report to the Channel Unit a choice (R101). -/
def State.probeReturn (s : State) (b : BayId) : State := s.probeReturnWith State.tellChannel b

/-- The policy test (R17), a PROBE_RETURN scored where a refusal is lifted onto ink present (R125). -/
def State.policyTest (s : State) (b : BayId) : State := s.policyTestWith State.tellChannel State.probeReturn b

/-- The policy test of a reconfiguration (R99), whose one choice follows when every change has been applied (log 37). -/
def State.policyTestQuietly (s : State) (b : BayId) : State :=
  s.policyTestWith (fun t _ => t) (State.probeReturnWith (fun t _ => t)) b

/-- One scoring (R119). -/
def State.score (s : State) (b : BayId) (kind : EvidenceKind) (points steps : Nat) : State :=
  s.scoreWith State.tellChannel State.policyTest b kind points steps

/-- A verdict evaluation without scoring (R120). -/
def State.evaluate (s : State) (b : BayId) : State := s.evaluateWith State.tellChannel State.policyTest b

/-- A TAG_MISMATCH against a serial the bay has released (R118): the entry alone is scored and evaluated; nothing
when it has left the table. A bay that pins the entry by now has its mirror written with it (R116). -/
def State.scoreReleased (s : State) (b : BayId) (serial : Word64) : State :=
  match s.entryOf? serial with
  | none => s
  | some e =>
    let score := min 255 (e.data.score + 4)
    let new := e.data.verdict.raisedTo (s.scoreVerdict score)
    let s1 := s.writeEntry serial (Entry.withData (fun d => { d with score := score, verdict := new }))
    let s2 :=
      match e.pin with
      | some p => s1.modBay p (fun v => { v with score := score, verdict := new })
      | none => s1
    s2.raise (.verdict b ⟨some serial, .tagMismatch, 4, score, new, e.data.verdict.rank < new.rank, 0⟩)

/-! ## Levels (R91, R92) -/

/-- The low mark of a bay (R91). -/
def Bay.lowMark (v : Bay) (lowLevel : Nat) : Nat := v.nominalMl * lowLevel * 10000

/-- The low level test (R91). -/
def State.lowTest (s : State) (b : BayId) : State :=
  match s.bayConfig b with
  | none => s
  | some c =>
    let v := s.bay b
    if v.remaining ≤ v.lowMark c.lowLevel ∧ ¬ v.lowWarned then
      (s.modBay b (fun v => { v with lowWarned := true })).raise (.level b .low .raised)
    else s

/-- The counted-out test (R92). -/
def State.countedOutTest (s : State) (b : BayId) : State :=
  let v := s.bay b
  if v.remaining = 0 ∧ ¬ v.countedOut then
    let s1 := (s.modBay b (fun v => { v with countedOut := true })).raise (.level b .countedOut .raised)
    match s1.pinnedBy b with
    | some e => s1.writeQuietly e.data.serial (Entry.withData (fun d => { d with countedOutSeen := true }))
    | none => s1
  else s

/-- The level tests of an identified bay whose link-up is not running (R91, R92). -/
def State.levelTests (s : State) (b : BayId) : State :=
  if (s.bay b).identity.isSome ∧ (s.bay b).step.isNone then (s.lowTest b).countedOutTest b else s

/-! ## Overdraw (R127) -/

/-- The overdraw examination (R127). -/
def State.overdrawExam (s : State) (b : BayId) : State :=
  let v := s.bay b
  let steps := v.stepsReached (s.tolerance b)
  if v.identity.isSome ∧ v.overdrawScored < steps then
    (s.modBay b (fun v => { v with overdrawScored := min 255 steps })).score b .overdraw
      (min 255 (8 * (steps - v.overdrawScored))) (min 255 steps)
  else s

/-! ## The probe (R20, R21) -/

/-- Ink absent on a serviceable bay (R20). -/
def State.inkAbsent (s : State) (b : BayId) : State := ((s.spendBay b).tellChannel b).raise (.bay b)

/-- Ink present on a SPENT bay (R21): to LOST when its link-lost flag is set, else to READY; a PROBE_RETURN is scored
when the probe-empty-seen flag is set (R125). -/
def State.inkReturns (s : State) (b : BayId) : State :=
  let v := s.bay b
  let s1 :=
    if v.linkLost then s.returnToLost b
    else s.modBay b (fun v => { v with state := .ready })
  let s2 := if v.probeEmptySeen then s1.probeReturn b else s1
  (s2.tellChannel b).raise (.bay b)

end Sys2Proof.Machine
end

