-- ==== Sys2Proof/Machine/LinkUp.lean ====
section
/-! DEFINITION. Link-up steps 2 to 5 and its completion (R10 to R15), reconciliation (R87 to R90), and the mark
examination (R123). Each definition calls the next step's, so the file reads from the end of link-up backwards. -/

namespace Sys2Proof.Machine

/-! ## Completion (R15) -/

/-- The refusal a completed link-up finds (R15 cases 1 to 3). -/
def completionRefusal (c : Settings) (v : Bay) : Option RefusalReason :=
  match v.identity with
  | none => none
  | some i => if i.colour ≠ c.colour then some .wrongColour else refusalDue c v

/-- The bay record at entry to READY or ACTIVE (R15): a probe state UNKNOWN leaves the first INK_PRESENT to await a
PROBE_RETURN (R125, third moment). -/
def Bay.serve (v : Bay) (st : BayState) : Bay :=
  { v with state := st, refusal := none, relinkAt := none, returnAwaited := v.probe == .unknown }

/-- Entry to READY or ACTIVE at completion: the timer starts, and a return already due is scored (R15, R82, R125). -/
def State.enterService (s : State) (b : BayId) (st : BayState) : State :=
  let s1 := (s.modBay b (fun v => v.serve st)).startWriteBack b
  let s2 := s1.levelTests b
  let s3 := if (s2.bay b).returnDue then s2.probeReturn b else s2
  s3.writeBackTrigger b false

/-- The bay is its channel's active bay. -/
def State.isActiveBay (s : State) (b : BayId) : Bool := (s.chan (bayChan b)).active == some (baySide b)

/-- Link-up completes (R15): the new state is the first of the six that applies. -/
def State.completeLink (s : State) (b : BayId) : State :=
  match s.bayConfig b with
  | none => s
  | some c =>
    let s1 := s.modBay b (fun v => { v with step := none, observed := none, linkLost := false })
    let v : Bay := s1.bay b
    let s2 :=
      match completionRefusal c v with
      | some r =>
        ((s1.modBay b (fun v => { v with state := .refused, refusal := some r, relinkAt := none })).levelTests
          b).writeBackTrigger b false
      | none =>
        if v.probe = ProbeState.inkAbsent then ((s1.spendBay b).levelTests b).writeBackTrigger b false
        else s1.enterService b (if s1.isActiveBay b then .active else .ready)
    (s2.tellChannel b).raise (.bay b)

/-- Step 5 (R14): a MARK is queued for a REFILLED, GENUINE, unmarked cartridge, else the link-up completes. -/
def State.beginStep5 (s : State) (b : BayId) : State :=
  let v := s.bay b
  let clear : Bool := match v.observed with | some o => !o.mark | none => false
  if v.verdict = .refilled ∧ v.auth = .genuine ∧ clear = true then
    (s.modBay b (fun v => { v with step := some .mark })).enqueue b .setup .mark (some .mark)
  else s.completeLink b

/-! ## Reconciliation (R87, R88) -/

/-- The four cases of R88. -/
inductive SettleCase where
  | applied | notApplied | inPart | rollback
  deriving DecidableEq, Repr

/-- The first case of R88 that matches a counter. -/
def settleCase (c e d : Nat) : SettleCase :=
  if e + d ≤ c then .applied
  else if c = e then .notApplied
  else if e < c then .inPart
  else .rollback

/-- What the settling adds to pending (R88). -/
def settleGrowth (c e d : Nat) : Nat :=
  match settleCase c e d with
  | .applied => 0
  | .notApplied | .inPart => d
  | .rollback => d + (e - c)

/-- The bay's figures after a settling (R88). -/
def Bay.settle (v : Bay) (c e d : Nat) : Bay :=
  { v with committed := c, doubt := 0, owing := fit48 (v.owing + settleGrowth c e d) }

/-- The evidence of a settling (R122). -/
def State.settleEvidence (s : State) (b : BayId) (c e d : Nat) : State :=
  match settleCase c e d with
  | .rollback => s.score b .rollback 32 0
  | .inPart => s.score b .counterMismatch 4 0
  | _ => s

/-- Set an entry's marked flag (R123, R130). -/
def State.setMarked (s : State) (serial : Word64) : State :=
  s.writeEntry serial (Entry.withData (fun d => { d with marked := true }))

/-- The mark examination (R123); `before` is the verdict before the settling's evidence was scored. -/
def State.examineMark (s : State) (b : BayId) (o : Observed) (before : Verdict) : State :=
  match s.pinnedBy b with
  | none => s
  | some e =>
    if ¬ o.mark ∨ e.data.marked then s
    else if before = .refilled then s.setMarked e.data.serial
    else (s.setMarked e.data.serial).score b .markFound 255 0

/-! ## Step 4 (R11, R13, R90, R136) -/

/-- A serial is that of an entry pinned by another bay (R11). -/
def State.duplicateSerial (s : State) (b : BayId) (serial : Word64) : Bool :=
  s.hist.table.any (fun e => e.data.serial == serial &&
    (match e.pin with | some p => p != b | none => false))

/-- The cartridge's figures, flags, verdict and authentication take their removal values, and its context is
cleared (R10, R11, R53, log 21). -/
def Bay.releaseFigures (v : Bay) : Bay :=
  { v with
    committed := 0, doubt := 0, inFlight := 0, owing := 0
    lowWarned := false, countedOut := false, probeEmptySeen := false, returnAwaited := false, linkLost := false
    verdict := .clean, score := 0, auth := .none, ctx := .clear }

/-- The METER entry of a bay whose cartridge has just been released (R90, R87, log 21): one whose write frame was
accepted runs on against the released serial, any other is deleted. The deletion starts no write-back timer (R82;
DEDUCED, log 58). -/
def State.releaseMeter (s : State) (b : BayId) : State :=
  match s.busEntry b .meter with
  | some e =>
    if e.split.isSome then s.modEntry b .meter (fun e => { e with released := true }) else s.dequeue b .meter
  | none => s

/-- A bay is refused for a duplicate serial (R11). -/
def State.refuseDuplicate (s : State) (b : BayId) : State :=
  let s1 :=
    if (s.bay b).identity.isSome then ((s.releaseCartridge b).releaseMeter b).modBay b Bay.releaseFigures else s
  let s2 := s1.modBay b (fun v =>
    { v with
      state := .refused, refusal := some .duplicateSerial, identity := none, observed := none, step := none
      relinkAt := none, ctx := .clear })
  (s2.raise (.bay b)).tellChannel b

/-- The bay's ADVANCE whose write frame has been sent has not ended (R90). -/
def State.advanceOutstanding (s : State) (b : BayId) : Bool :=
  match s.busEntry b .meter with
  | some e => e.sent
  | none => false

/-- Take an existing entry's figures into the bay (R13, R136): E stands in committed until the settling. -/
def Bay.takeFigures (v : Bay) (d : EntryData) : Bay :=
  { v with
    owing := fit48 (v.owing + d.owed), doubt := d.inDoubt, committed := d.confirmed
    verdict := d.verdict, score := d.score, probeEmptySeen := d.probeEmptySeen }

/-- The lookup of step 4 (R136): the entry found or created, pinned, and its figures taken; none when a creation
must wait for a slot (R137). A creation leaves the bay's own probe-empty-seen flag as it stands: no rule writes it
there (DEDUCED, log 44). -/
def State.lookup (s : State) (b : BayId) (i : Identity) (o : Observed) : Option State :=
  match s.entryOf? i.serial with
  | some e =>
    let s1 := (s.takeEntry i.serial b).modBay b (fun v => v.takeFigures e.data)
    some (match s1.pinnedBy b with | some e1 => s1.pfJoin e1 | none => s1)
  | none =>
    match s.createEntry i b (some b) o.counter.toNat 0 with
    | none => none
    | some s1 =>
      let s2 := s1.modBay b (fun v =>
        { v with committed := o.counter.toNat, doubt := 0, verdict := .clean, score := 0 })
      some (match s2.pinnedBy b with | some e1 => s2.pfJoin e1 | none => s2)

/-- Step 4 after the lookup (R13): settle, weigh the evidence, examine the mark, set the overdraw steps, refresh the
entry, and go on to step 5. -/
def State.reconcile (s : State) (b : BayId) (o : Observed) : State :=
  let v := s.bay b
  let c := o.counter.toNat
  let s1 := s.modBay b (fun v => v.settle c v.committed v.doubt)
  let s2 := s1.settleEvidence b c v.committed v.doubt
  let s3 := s2.examineMark b o v.verdict
  let s4 := s3.modBay b (fun v => { v with overdrawScored := min 255 (v.stepsReached (s.tolerance b)) })
  (s4.refresh b).beginStep5 b

/-- A link-up goes back to step 2 with a new IDENT (R12, R59, R90); the observed counter and mark stand (R2). -/
def State.backToStep2 (s : State) (b : BayId) : State :=
  (s.modBay b (fun v => { v with step := some .ident })).enqueue b .setup .ident (some .ident)

/-- Step 4 goes back to step 2 and discards the observed counter and mark (R90). -/
def State.leaveStep4 (s : State) (b : BayId) : State :=
  (s.modBay b (fun v => { v with observed := none })).backToStep2 b

/-- A lookup has written the bay's verdict: a change from `was` is tested against the policies (R17). -/
def State.verdictTaken (s : State) (b : BayId) (was : Verdict) : State :=
  if (s.bay b).verdict = was then s else s.policyTest b

/-- Try step 4 (R11, R13, R90, R137): refuse a duplicate, wait for an ADVANCE, go back to step 2 when one was
accepted since the IDENT, wait for a slot, or reconcile. -/
def State.tryStep4 (s : State) (b : BayId) : State :=
  let v := s.bay b
  match v.identity, v.observed with
  | some i, some o =>
    if s.duplicateSerial b i.serial then s.refuseDuplicate b
    else if s.advanceOutstanding b then s
    else if v.advanceSinceIdent then s.leaveStep4 b
    else if v.state ≠ .linking ∧ (s.pinnedBy b).isSome then s.reconcile b o
    else
      match s.lookup b i o with
      | none => s
      | some s1 => ((s1.verdictTaken b v.verdict).evaluate b).reconcile b o
  | _, _ => s

/-- Step 4 begins (R13). -/
def State.beginStep4 (s : State) (b : BayId) : State :=
  (s.modBay b (fun v => { v with step := some .reconcile })).tryStep4 b

/-- The bay's step 4 waits for its ADVANCE (R90), and not for a slot (R137). -/
def State.awaitsAdvance (s : State) (b : BayId) : Bool :=
  (s.bay b).step == some .reconcile && s.advanceOutstanding b

/-- A bay whose step 4 waits tries it again, unless its ADVANCE has still not ended (R90, R137). -/
def State.retryBayStep4 (s : State) (b : BayId) : State :=
  if (s.bay b).step = some .reconcile ∧ s.advanceOutstanding b = false then s.tryStep4 b else s

/-- A bay whose step 4 waited for its ADVANCE in `before` tries it again (R90): one that waits for a slot goes on waiting
for a removal save (R137). -/
def State.retryAfterAdvance (before s : State) (b : BayId) : State :=
  if before.awaitsAdvance b then s.retryBayStep4 b else s

/-- Bays whose step 4 waits for a slot try it again, in bay index order (R137, log 31). -/
def State.retryStep4 (s : State) : State := allBays.foldl State.retryBayStep4 s

/-! ## Step 3 (R12, R59) -/

/-- A bay's authentication state changes in a link-up; the policy test applies to it outside LINKING (R17). -/
def State.linkAuth (s : State) (b : BayId) (a : AuthState) : State := (s.setAuth b a).policyTest b

/-- Step 3 ends UNVERIFIABLE: the slot is empty or the counter is EXHAUSTED (R12, R53, R57, R59). -/
def State.unverifiable (s : State) (b : BayId) : State :=
  let s1 := s.modBay b (fun v =>
    { v with ctx := { v.ctx with
        exchange := .none
        key := if (s.masterKey b).isNone then none else v.ctx.key } })
  (s1.linkAuth b .unverifiable).beginStep4 b

/-- Step 3 begins, or begins again after an indeterminate response (R12, R59). -/
def State.beginStep3 (s : State) (b : BayId) : State :=
  let s1 := s.modBay b (fun v => { v with step := some .challenge })
  if (s1.masterKey b).isNone ∨ s1.challenge.block = .exhausted then s1.unverifiable b
  else if (s1.bay b).ctx.exchange = .linkup then s1.enqueue b .setup .challenge (some .challenge)
  else (s1.linkAuth b .challenging).beginExchange b .linkup (some .challenge)

/-- A LINKUP exchange ends GENUINE or REJECTED, and step 3 ends (R59, R61). The mismatch count stands until the next
exchange begins: no rule writes it here (DEDUCED, log 41). -/
def State.endLinkExchange (s : State) (b : BayId) (a : AuthState) : State :=
  let s1 := s.modBay b (fun v => { v with ctx := { v.ctx with exchange := .none }, writeBacks := 0 })
  (s1.linkAuth b a).beginStep4 b

/-! ## Step 2 (R10) -/

/-- Release the cartridge a relinking bay held, whose serial is not the one now read (R10, R90). -/
def State.exchangeCartridge (s : State) (b : BayId) (i : Identity) : State :=
  let s3 := ((s.releaseCartridge b).releaseMeter b).modBay b
    (fun v => { v.releaseFigures with identity := some i, state := .linking, refusal := none, relinkAt := none })
  (s3.raise (.bay b)).tellChannel b

/-- A taken IDENT reply in step 2 (R10). -/
def State.identTaken (s : State) (b : BayId) (i : Identity) (o : Observed) : State :=
  let s1 := s.modBay b (fun v => { v with observed := some o, advanceSinceIdent := false })
  if s1.duplicateSerial b i.serial then s1.refuseDuplicate b
  else
    match (s1.bay b).state, (s1.bay b).identity with
    | .linking, _ | _, none => (s1.modBay b (fun v => { v with identity := some i })).beginStep3 b
    | _, some held =>
      if held.serial = i.serial then (s1.modBay b (fun v => { v with identity := some i })).beginStep3 b
      else (s1.exchangeCartridge b i).beginStep3 b

end Sys2Proof.Machine
end

