-- ==== Sys2Proof/Machine/Transactions.lean ====
section
/-! DEFINITION. Transactions on the bay bus (R38 to R44): how an attempt's result is acted on, failure runs and
re-codes, the end of a transaction and its report to its owner (R42), and the owners' rules for each report (R59,
R60, R65, R85, R130). -/

namespace Sys2Proof.Machine

/-! ## Challenge responses (R59, R60, R65) -/

/-- A response matches the expected value (R60); with no cartridge key it is a mismatch. -/
def Bay.responseMatches (v : Bay) (nonce : Nonce) (counter : BitVec 40) (data : List Byte) : Bool :=
  match v.ctx.key with
  | some k => expectedResponse k nonce counter == BitVec.ofNat 64 (leNat data)
  | none => false

/-- The counter of record of a LINKUP exchange: the observed counter (R60). -/
def Bay.linkCounter (v : Bay) : BitVec 40 :=
  match v.observed with
  | some o => o.counter
  | none => 0

/-- The counter of record of a RECHECK exchange: committed (R60). -/
def Bay.recheckCounter (v : Bay) : BitVec 40 := BitVec.ofNat 40 v.committed

/-- A first mismatch: the count is 1 and a second CHALLENGE is queued (R59, R65). -/
def State.secondChallenge (s : State) (b : BayId) (step : Option LinkStep) : State :=
  (s.modBay b (fun v => { v with ctx := { v.ctx with mismatches := 1 } })).enqueue b .setup .challenge step

/-- A response to link-up step 3's CHALLENGE (R59, R60). -/
def State.linkResponse (s : State) (b : BayId) (nonce : Nonce) (data : List Byte) : State :=
  let v := s.bay b
  if v.advanceSinceIdent then s.backToStep2 b
  else if v.responseMatches nonce v.linkCounter data then s.endLinkExchange b .genuine
  else
    let s1 := s.bumpChallengeFail b
    if v.ctx.mismatches = 0 then s1.secondChallenge b (some .challenge) else s1.endLinkExchange b .rejected

/-- The report of link-up step 3's CHALLENGE (R59). -/
def State.reportLinkChallenge (s : State) (b : BayId) (o : BusOutcome) (nonce : Nonce) (data : List Byte) : State :=
  if (s.bay b).step = some .challenge then
    if o = .ok then s.linkResponse b nonce data else s.linkFail b
  else s

/-- A re-challenge ends the exchange with the write-back count at 0 (R63, R65). The mismatch count stands until the
next exchange begins: no rule writes it here (DEDUCED, log 41). -/
def Bay.endRecheck (v : Bay) : Bay := { v.dropExchange with writeBacks := 0 }

/-- A response to a re-challenge that does not match (R65, R67). -/
def State.recheckMismatch (s : State) (b : BayId) : State :=
  let s1 := s.bumpChallengeFail b
  if (s.bay b).ctx.mismatches = 0 then s1.secondChallenge b none
  else
    ((((s1.modBay b Bay.endRecheck).setAuth b .rejected).raise (.bay b)).policyTest b).tellChannel b

/-- The report of a re-challenge's CHALLENGE (R65). -/
def State.reportRecheck (s : State) (b : BayId) (o : BusOutcome) (nonce : Nonce) (data : List Byte) : State :=
  let v := s.bay b
  if v.ctx.exchange = .recheck then
    match o with
    | .ok =>
      if v.doubt ≠ 0 ∨ v.inFlight ≠ 0 then
        s.modBay b (fun v => { v with ctx := { v.ctx with exchange := .none, owed := true } })
      else if v.responseMatches nonce v.recheckCounter data then s.modBay b Bay.endRecheck
      else s.recheckMismatch b
    | .refused | .failed => s.recheckMismatch b
    | _ => (s.modBay b Bay.dropExchange).handleNoReply b
  else s

/-! ## IDENT and MARK (R10, R14, R130) -/

/-- The report of link-up step 2's IDENT (R8, R10). -/
def State.reportIdent (s : State) (b : BayId) (o : BusOutcome) (data : List Byte) : State :=
  if (s.bay b).step = some .ident then
    if o = .ok then s.identTaken b (readIdentity data) (readObserved data) else s.linkFail b
  else s

/-- The marked flag of the entry a bay pins is set (R130). -/
def State.markPinned (s : State) (b : BayId) : State :=
  match s.pinnedBy b with
  | some e => s.setMarked e.data.serial
  | none => s

/-- The report of a MARK, by link-up step 5 (R14) or outside link-up (R130). -/
def State.reportMark (s : State) (b : BayId) (step : Option LinkStep) (o : BusOutcome) : State :=
  let s1 := if o = .ok then s.markPinned b else s
  match step with
  | some _ =>
    if (s1.bay b).step = some .mark then
      if o = .noReply then s1.linkFail b else s1.completeLink b
    else s1
  | none => if o = .noReply then s1.handleNoReply b else s1

/-! ## ADVANCE (R62, R63, R85, R87, R89) -/

/-- The tag of a completed advance matches (R62); with no cartridge key it is a mismatch. -/
def Bay.tagMatches (v : Bay) (w : Drawn) (c : BitVec 40) (tag : Word64) : Bool :=
  match v.ctx.key with
  | some k => expectedTag k w.seq c w.delta == tag
  | none => false

/-- The evidence of a wrong tag (R62, R118): against the released serial when the identity has been released. -/
def State.tagEvidence (s : State) (b : BayId) (released : Bool) (w : Drawn) : State :=
  if released then
    match w.serial with
    | some serial => s.scoreReleased b serial
    | none => s
  else s.score b .tagMismatch 4 0

/-- The settling at an ADVANCE that ends OK, and what follows it (R87, R88, R89): evidence, the overdraw examination
when consumed rose, the level tests, and the write-back trigger. -/
def State.advanceSettle (s : State) (b : BayId) (delta c : Nat) : State :=
  let v := s.bay b
  let e := v.committed + delta
  let s1 := s.modBay b (fun v => { v with inFlight := 0 }.settle c e v.doubt)
  let s2 := s1.settleEvidence b c e v.doubt
  let s3 := if v.consumed < (s1.bay b).consumed then s2.overdrawExam b else s2
  (s3.levelTests b).writeBackTrigger b false

/-- The write-backs since the last challenge count an ADVANCE that ended OK, and ask for a re-challenge at the
channel's reauth count (R63). -/
def State.countWriteBack (s : State) (b : BayId) : State :=
  let s1 := s.modBay b (fun v => { v with writeBacks := min 255 (v.writeBacks + 1) })
  match s.bayConfig b with
  | some c => if c.reauth ≠ 0 ∧ c.reauth ≤ (s1.bay b).writeBacks then s1.requestRecheck b else s1
  | none => s1

/-- An ADVANCE ends OK (R62, R63, R85). The settling comes before the tag's scoring, so that a refresh the scoring
causes finds the in-flight passed on (R138): R62 leaves their order open (DESIGN CHOICE, log 42). The tag is verified
in every authentication state, as R62, R118 and R124 say of each advance that ends OK; the 'none' of R66's table for
NONE and CHALLENGING is read as naming states in which no advance is sent (DEDUCED, log 40). -/
def State.advanceOk (s : State) (b : BayId) (released : Bool) (w : Drawn) (c : BitVec 40) (tag : Word64) : State :=
  let good := (s.bay b).tagMatches w c tag
  let s1 := if released then s else s.advanceSettle b w.delta c.toNat
  let s2 := if good then s1 else s1.tagEvidence b released w
  let s3 := if !good && (s2.bay b).auth == .genuine then s2.requestRecheck b else s2
  s3.countWriteBack b

/-- The in-flight figure of an ADVANCE that did not end OK (R85): doubt when its write frame had been accepted,
pending otherwise; it stands already in the released cartridge's entry when the identity has been released. -/
def State.advanceUndone (s : State) (b : BayId) (released unknown : Bool) : State :=
  if released then s else s.modBay b (if unknown then Bay.doubtInFlight else Bay.returnInFlight)

/-- What follows every end of an ADVANCE (R82, R85, R90): the timer unless the bay is LOST, the quantum test, an owed
re-challenge, and a step 4 that waits for it. -/
def State.afterAdvance (s : State) (b : BayId) : State :=
  let s1 := if (s.bay b).state = .lost then s else s.startWriteBack b
  let s2 := (s1.writeBackTrigger b false).settleOwed b
  s2.retryBayStep4 b

/-- What an ADVANCE drew; nothing before its first take. -/
def BusEntry.draw (e : BusEntry) : Drawn :=
  match e.drawn with
  | some w => w
  | none => ⟨0, 0, none⟩

/-- The report of an ADVANCE (R85). -/
def State.reportAdvance (s : State) (e : BusEntry) (o : BusOutcome) (data : List Byte) : State :=
  let b := e.bay
  let s1 :=
    match o with
    | .ok =>
      s.advanceOk b e.released e.draw (BitVec.ofNat 40 (leNat (slice data 0 5)))
        (BitVec.ofNat 64 (leNat (slice data 5 8)))
    | .refused | .failed => s.advanceUndone b e.released false
    | .noReply => (s.advanceUndone b e.released e.split.isSome).handleNoReply b
    | _ => s.advanceUndone b e.released e.split.isSome
  s1.afterAdvance b

/-! ## SERVICE (R30, R33) -/

/-- The report of a SERVICE transaction (R16, R164, R165). -/
def State.reportService (s : State) (b : BayId) (o : BusOutcome) (data : List Byte) : State :=
  let s1 := s.serviceEnd b o data
  if o = .noReply then s1.handleNoReply b else s1

/-! ## The end of a transaction (R42) -/

/-- The report of a transaction to its owner (R42). -/
def State.report (s : State) (e : BusEntry) (o : BusOutcome) (nonce : Nonce) (data : List Byte) : State :=
  match e.op with
  | .ident => s.reportIdent e.bay o data
  | .challenge =>
    if e.linkStep.isSome then s.reportLinkChallenge e.bay o nonce data else s.reportRecheck e.bay o nonce data
  | .mark => s.reportMark e.bay e.linkStep o
  | .advance => s.reportAdvance e o data
  | .readBlock _ | .writeBlock _ _ => s.reportService e.bay o data

/-- A transaction ends (R42): out of the queue, last outcome `last`, WRITEBACKS for an ADVANCE that ends OK (R23), the
report, and the release of the SETUP entry. -/
def State.endTransaction (s : State) (e : BusEntry) (o last : BusOutcome) (nonce : Nonce) (data : List Byte) :
    State :=
  let s1 := (s.dequeue e.bay e.cls).noteOutcome e.bay last
  let s2 := if e.op = .advance ∧ o = .ok then s1.bumpWriteBacks e.bay else s1
  let s3 := s2.report e o nonce data
  if e.cls = .setup then s3.releaseSetup e.bay else s3

/-! ## Failed attempts (R40, R41) -/

/-- The kinds of failed attempt. -/
inductive FailKind where
  | noReply | malformed | busy
  deriving DecidableEq, Repr

/-- The last bus outcome of an exhausted run (R41). -/
def FailKind.outcome : FailKind → BusOutcome
  | .noReply => .noReply
  | .malformed => .malformed
  | .busy => .busyTimeout

/-- The bay counter of a failed attempt (R23, R40). -/
def State.countFailure (s : State) (b : BayId) : FailKind → State
  | .noReply => s.bumpNoReply b
  | .malformed => s.bumpMalformed b
  | .busy => s

/-- A failure run is exhausted by one more failed attempt (R41, log 19): the third of a re-coded run, or the further
attempt after the third. -/
def BusEntry.exhausts (e : BusEntry) : Bool := 3 ≤ e.attempts || (e.attempts == 2 && e.recoded)

/-- The entry of a run with another failed attempt that does not exhaust it (R40, R41). -/
def BusEntry.failed (poll : Bool) (e : BusEntry) : BusEntry :=
  if e.attempts = 2 then { e with attempts := 3, state := .waiting, awaitRecode := some poll }
  else { e with attempts := e.attempts + 1, state := if poll then .pollDue else .waiting }

/-- The deadline of the entry's split write passed while a poll was in flight (R39). -/
def BusEntry.pastDeadline (e : BusEntry) : Bool :=
  match e.split with
  | some w => w.deadlinePassed
  | none => false

/-- A failed attempt (R40, R41); one of a poll past its deadline ends the write BUSY_TIMEOUT (R39). -/
def State.failedAttempt (s : State) (e : BusEntry) (poll : Bool) (k : FailKind) : State :=
  let s1 := s.countFailure e.bay k
  if poll ∧ e.pastDeadline then s1.endTransaction e .busyTimeout .busyTimeout 0 []
  else if e.exhausts then s1.endTransaction e .noReply k.outcome 0 []
  else
    let s2 := s1.modEntry e.bay e.cls (BusEntry.failed poll)
    if e.attempts = 2 then s2.askSetCode (baySeg e.bay) poll else s2

/-! ## Taken replies (R29, R38, R39) -/

/-- The write busy time of a write frame accepted now on the bay, in microseconds (R38): that of its identity, and a free
value where it holds none (log 54). -/
def State.busyUs (s : State) (b : BayId) : Nat :=
  match (s.bay b).identity with
  | some i => i.writeBusy.toNat * 1000
  | none => ((Config.unstatedBusy b.val s.now).val + 1) * 1000

/-- A write frame is accepted: the split write is outstanding and the failure run closes (R38). -/
def BusEntry.accept (now busy : Nat) (e : BusEntry) : BusEntry :=
  { e with
    state := .waiting
    attempts := 0
    recoded := false
    split := some ⟨now, some (now + busy), now + busy + Config.deadlineSlackUs, false⟩ }

/-- ACCEPTED is taken (R38); an ADVANCE's owner is told (R60, R90). -/
def State.accepted (s : State) (e : BusEntry) : State :=
  let s1 := s.modEntry e.bay e.cls (BusEntry.accept s.now (s.busyUs e.bay))
  if e.op = .advance then
    s1.modBay e.bay (fun v => { v with advanceSinceIdent := v.advanceSinceIdent || v.observed.isSome })
  else s1

/-- A POLL is answered BUSY before the deadline: the run closes and the next poll falls due 1 ms later (R39, R41). -/
def BusEntry.pollAgain (now : Nat) (e : BusEntry) : BusEntry :=
  { e with
    state := .waiting
    attempts := 0
    recoded := false
    split := e.split.map (fun w => { w with pollAt := some (now + Config.pollAgainUs) }) }

/-- A DONE is taken: success, but for an IDENT outside the ranges of R4 (R29, R39). -/
def State.done (s : State) (e : BusEntry) (nonce : Nonce) (data : List Byte) : State :=
  if e.op = .ident ∧ ¬ (readIdentity data).inRange then s.failedAttempt e false .malformed
  else s.endTransaction e .ok .ok nonce data

/-- The result of an attempt is acted on (R29). -/
def State.actOn (s : State) (e : BusEntry) (poll : Bool) (nonce : Nonce) : Attempt → State
  | .success data => s.done e nonce data
  | .accepted => s.accepted e
  | .refused => s.endTransaction e .refused .refused nonce []
  | .failed => s.endTransaction e .failed .failed nonce []
  | .busy =>
    if poll then
      if e.pastDeadline then s.endTransaction e .busyTimeout .busyTimeout nonce []
      else s.modEntry e.bay e.cls (BusEntry.pollAgain s.now)
    else s.failedAttempt e false .busy
  | .malformed => s.failedAttempt e poll .malformed

/-- The exchange of a segment ends (R28). -/
def State.endExchange (s : State) (g : Segment) : State := s.modSeg g (fun c => { c with exchange := none })

/-- A reply is taken on a segment (R28, R29): the exchange ends and its result is acted on. A reply to a bay that was
removed is discarded (R44). -/
def State.takeReply (s : State) (g : Segment) (x : Exchange) (bytes : List Byte) : State :=
  let s1 := s.endExchange g
  if x.abandoned then s1
  else
    match x.what with
    | .setCode _ => s1
    | .entry b k poll =>
      match s1.busEntry b k with
      | some e => s1.actOn e poll x.nonce (judgeReply e.op poll bytes)
      | none => s1

/-- The reply window of a segment expires (R28). -/
def State.noReplyTaken (s : State) (g : Segment) (x : Exchange) : State :=
  let s1 := s.endExchange g
  if x.abandoned then s1
  else
    match x.what with
    | .setCode _ => s1
    | .entry b k poll =>
      match s1.busEntry b k with
      | some e => s1.failedAttempt e poll .noReply
      | none => s1

/-! ## The end of a SET CODE (R9, R26, R41) -/

/-- What the end of a SET CODE frame does to an entry: its open run is re-coded, and a wait for a re-code ends. -/
def BusEntry.recode (e : BusEntry) : BusEntry :=
  let e1 := if e.attempts = 0 then e else { e with recoded := true }
  match e1.awaitRecode with
  | some poll => { e1 with awaitRecode := none, state := if poll then .pollDue else .waiting }
  | none => e1

/-- Link-up step 1 of a bay completes and step 2 begins (R9, R10); its IDENT waits while the bay's SETUP entry is taken
(log 22). -/
def State.stepOneDone (s : State) (b : BayId) : State :=
  if (s.bay b).step = some .setCode then
    let s1 := s.modBay b (fun v => { v with step := some .ident })
    if (s1.busEntry b .setup).isNone then s1.enqueue b .setup .ident (some .ident) else s1
  else s

/-- A SET CODE frame ends (R26). -/
def State.setCodeEnds (s : State) (g : Segment) (serves : List BayId) : State :=
  let s1 := s.modSeg g (fun c => { c with exchange := none, queue := c.queue.map BusEntry.recode })
  serves.foldl State.stepOneDone s1

/-! ## The counter is EXHAUSTED (R57) -/

/-- Withdraw a bay's waiting CHALLENGE and drop its re-challenges (R57, log 33). -/
def State.withdrawChallenge (s : State) (b : BayId) : State :=
  let s1 := s.modBay b (fun v => { v with waitRechallenge := false, ctx := { v.ctx with owed := false } })
  match s1.busEntry b .setup with
  | none => s1
  | some e =>
    if e.op = .challenge ∧ e.state = .waiting then
      let s2 := s1.dequeue b .setup
      if e.linkStep.isSome then s2.unverifiable b
      else (s2.modBay b Bay.dropExchange).releaseSetup b
    else s1

/-- While the counter is EXHAUSTED no CHALLENGE waits and no re-challenge is owed (R57). -/
def State.sweepExhausted (s : State) : State :=
  if s.challenge.block = .exhausted then allBays.foldl State.withdrawChallenge s else s

/-! ## Removal (R18, R44) -/

/-- An exchange in flight for a bay that is removed ends for its owner; a SET CODE no longer serves it (R44). -/
def Exchange.forget (b : BayId) (x : Exchange) : Exchange :=
  match x.what with
  | .setCode serves => { x with what := .setCode (serves.filter (fun y => y != b)) }
  | .entry b1 _ _ => if b1 = b then { x with abandoned := true } else x

/-- The last bus outcome REMOVED, for a transaction that had sent a frame (R42). -/
def State.noteRemoved (s : State) (b : BayId) (sent : Bool) : State := if sent then s.noteOutcome b .removed else s

/-- A removed bay's METER transaction (R44, R85): doubt when accepted, pending when sent. -/
def State.removeMeter (s : State) (b : BayId) : State :=
  match s.busEntry b .meter with
  | none => s
  | some e =>
    let s1 := (s.dequeue b .meter).noteRemoved b e.sent
    if e.sent then s1.advanceUndone b e.released e.split.isSome else s1

/-- A removed bay's SERVICE transaction (R44). -/
def State.removeService (s : State) (b : BayId) : State :=
  match s.busEntry b .service with
  | none => s
  | some e => ((s.dequeue b .service).noteRemoved b e.sent).serviceEnd b .removed []

/-- A removed bay's SETUP entry (R44). -/
def State.removeSetup (s : State) (b : BayId) : State :=
  match s.busEntry b .setup with
  | none => s
  | some e => (s.dequeue b .setup).noteRemoved b e.sent

/-- The segment controller's part of a removal (R44). -/
def State.removalCleanup (s : State) (b : BayId) : State :=
  (((s.modSeg (baySeg b) (fun c =>
    { c with
      exchange := c.exchange.map (Exchange.forget b)
      stepOne := c.stepOne.filter (fun y => y != b) })).removeMeter b).removeService b).removeSetup b

/-- A bay record after removal (R2): what describes the bay and its wiring is kept. -/
def Bay.removed (v : Bay) : Bay :=
  { Bay.reset with
    lastOutcome := v.lastOutcome
    noReplyCtr := v.noReplyCtr
    malformedCtr := v.malformedCtr
    challengeFailCtr := v.challengeFailCtr
    writeBacksCtr := v.writeBacksCtr }

/-- A removal (R18); a backlogged LEVEL notice of the bay learns of it (R93). -/
def State.removal (s : State) (b : BayId) : State :=
  ((((((s.removalCleanup b).releaseCartridge b).modBay b Bay.removed).noteEmptied b).raise (.bay b)).tellRemoved b)

end Sys2Proof.Machine
end

