-- ==== Sys2Proof/Machine/Power.lean ====
section
/-! DEFINITION. Flushes and the power-fail mode (R171 to R176), the store arbiter (R142 to R144), start-up (R146,
R169), resets (R168), and the end of a command (conclude). -/

namespace Sys2Proof.Machine

/-! ## Sets that become done (R171, R173) -/

/-- Raise a POWER notice with the state as it stands (R176). -/
def State.raisePower (s : State) (ev : PowerEvent) : State := s.raise (.power (s.powerFields ev))

/-- Move the power-fail state (R173). -/
def State.setPf (s : State) (p : PfState) : State := { s with hist := { s.hist with pf := p } }

/-- The power-fail set becomes done (R173). -/
def State.pfCheck (s : State) : State :=
  if s.hist.pfSet.all (fun m => m.done) then
    match s.hist.pf with
    | .saving => (s.setPf .saved).raisePower .saved
    | .resuming => (s.setPf .normal).raisePower .resumed
    | .normal | .saved => s
  else s

/-- The executing request is a RESTART. -/
def State.restarting (s : State) : Bool :=
  match s.link.intake with
  | q :: _ => q.kind == Req.restart.code
  | [] => false

/-- The flush set becomes done: the FLUSH or RESTART is answered (R171, R172). -/
def State.flushCheck (s : State) : State :=
  match s.link.waiting with
  | some (.flush ms) =>
    if ms.all (fun m => m.done) then s.finishRequest .ok [u8 ms.length] s.restarting else s
  | _ => s

/-- The end of a command that may complete a set or a request: the sets are examined and the transmitter acts (log
5). -/
def State.conclude (s : State) : State := s.pfCheck.flushCheck.transmit

/-! ## Power-fail mode (R173, R174) -/

/-- An entry belongs to a set formed now: pinned, or dirty (R171, R174). -/
def Entry.joins (e : Entry) : Bool := e.pin.isSome || e.dirty.isSome

/-- The members of a set formed now. -/
def State.formSet (s : State) : List SetMember :=
  (s.hist.table.filter Entry.joins).map (fun e => ⟨e.data.serial, false⟩)

/-- Entry into SAVING (R173, R174). The set is formed anew: an entry of an earlier set that is unpinned and clean by now
is not in it (DEDUCED, log 48). -/
def State.enterSaving (s : State) : State :=
  State.raisePower
    { s with hist := { s.hist with
        pf := .saving
        pfSet := s.formSet
        table := s.hist.table.map (fun e =>
          if e.pin.isSome then { e with pfSave := true } else e.resave s.hist.writeOrder)
        writeOrder := s.hist.writeOrder + 1
        saving := s.hist.saving.map (fun sv => { sv with countsPf := false }) } }
    .failEntered

/-- A change of the debounced power-fail warning (R173). -/
def State.pfChanged (s : State) : State :=
  if s.hist.pfLevel then
    match s.hist.pf with
    | .normal | .resuming => s.enterSaving
    | .saving | .saved => s
  else
    match s.hist.pf with
    | .saving => s.setPf .resuming
    | .saved => (s.setPf .normal).raisePower .resumed
    | .normal | .resuming => s

/-! ## Flushing (R171) -/

/-- Form the flush set (R171): every pinned entry is refreshed, in bay index order, which sets their dirty times (no
rule orders the refreshes: DESIGN CHOICE, log 46), and the executing request waits. -/
def State.formFlush (s : State) : State :=
  let s1 := allBays.foldl State.refresh s
  State.waitFor
    { s1 with hist := { s1.hist with
        table := s1.hist.table.map (Entry.resave s1.hist.writeOrder)
        writeOrder := s1.hist.writeOrder + 1
        saving := s1.hist.saving.map (fun sv => { sv with countsFlush := false }) } }
    (.flush s1.formSet)

/-! ## The store arbiter (R142, R143, R144) -/

/-- Set an entry slot of the store. -/
def Store.setSlot (st : Store) (sl : SlotId) (v : StoredSlot) : Store := { st with slots := st.slots.set sl.val v }

/-- The stored effect of a class-1 save. -/
def Store.applyKeySave (st : Store) : KeySave → Store
  | .key slot k => { st with keys := st.keys.set slot.val (some k) }
  | .lock => { st with locked := true }
  | .reserve limit => { st with limit := limit }

/-- Class 2: the entry with a power-fail save whose pinning bay has the lowest index. -/
def State.classTwo (s : State) : Option (BayId × Entry) :=
  allBays.findSome? (fun b =>
    match s.pinnedBy b with
    | some e => if e.pfSave then some (b, e) else none
    | none => none)

/-- The entry with the earliest dirty time. -/
def earliestEntry : List Entry → Option (Nat × Entry)
  | [] => none
  | e :: es =>
    match e.dirty, earliestEntry es with
    | none, r => r
    | some t, none => some (t, e)
    | some t, some (u, x) => if u < t then some (u, x) else some (t, e)

/-- The removal save with the earliest dirty time; of equal times the one that stands first (DESIGN CHOICE, log 45). -/
def earliestRemoval : List Removal → Option Removal
  | [] => none
  | r :: rs =>
    match earliestRemoval rs with
    | none => some r
    | some x => if x.dirty < r.dirty then some x else some r

/-- Begin a save of an entry (R143): the slot reads OPEN and the fields are taken now. -/
def State.beginEntrySave (s : State) (e : Entry) : State :=
  { s with
    store := s.store.setSlot e.slot .opened
    hist := { s.hist with
      table := s.hist.table.map (fun x =>
        if x.data.serial == e.data.serial then { x with saving := true, rewrite := none, pfSave := false } else x)
      saving := some ⟨.entry e.slot e.data, true, true⟩ } }

/-- Begin a removal save (R144). -/
def State.beginRemoval (s : State) (r : Removal) : State :=
  { s with
    store := s.store.setSlot r.slot .opened
    hist := { s.hist with
      removals := s.hist.removals.filter (fun x => x.slot != r.slot)
      saving := some ⟨.removal r.slot, true, true⟩ } }

/-- The arbiter's choice in class 3 (R142). -/
def State.beginClassThree (s : State) : State :=
  match earliestEntry s.hist.table, earliestRemoval s.hist.removals with
  | some (t, e), some r => if r.dirty < t then s.beginRemoval r else s.beginEntrySave e
  | some (_, e), none => s.beginEntrySave e
  | none, some r => s.beginRemoval r
  | none, none => s

/-- The idle arbiter begins the next save (R142); a power-fail save refreshes its entry as it begins (R174). -/
def State.beginSave (s : State) : State :=
  match s.hist.keySaves with
  | k :: ks => { s with hist := { s.hist with keySaves := ks, saving := some ⟨.key k, true, true⟩ } }
  | [] =>
    match s.classTwo with
    | some (b, e) =>
      let s1 := s.refresh b
      s1.beginEntrySave ((s1.pinnedBy b).getD e)
    | none => s.beginClassThree

/-- An entry's save completes (R143): it is clean unless a write reached it since the save began. -/
def Entry.saved (e : Entry) : Entry := { e with dirty := e.rewrite, saving := false, rewrite := none }

/-- The entry of a slot whose save is in progress. -/
def State.savingEntry (s : State) (sl : SlotId) : Option Entry :=
  s.hist.table.find? (fun e => e.slot == sl && e.saving)

/-- Completion of an entry save: the slot is CLOSED with the copy, the entry is clean, and it is done for the sets the
save counts for (R143, R171, R174). -/
def State.entrySaved (s : State) (sl : SlotId) (copy : EntryData) (countsPf countsFlush : Bool) : State :=
  let s1 := { s with store := s.store.setSlot sl (.closed copy) }
  match s1.savingEntry sl with
  | none => s1
  | some e =>
    let s2 := { s1 with hist := { s1.hist with
      table := s1.hist.table.map (fun x => if x.slot == sl && x.saving then x.saved else x) } }
    let s3 := if countsPf then s2.pfDone e.data.serial else s2
    if countsFlush then s3.flushDone e.data.serial else s3

/-- Completion of a removal save (R144, R148): the slot is free; a HISTORY FORGET that waits for it is answered, and a
step 4 that waits for a slot goes on (R137). -/
def State.removalSaved (s : State) (sl : SlotId) : State :=
  let s1 := { s with store := s.store.setSlot sl .free }
  let s2 :=
    match s1.link.waiting with
    | some (.forget sl1 serial owed inDoubt) =>
      if sl1 = sl then
        s1.finishRequest .ok (beBytes 8 serial.toNat ++ beBytes 6 owed ++ beBytes 6 inDoubt) false
      else s1
    | _ => s1
  s2.retryStep4

/-- Start-up ends (R169): the STARTUP notice is queued, and an asserted power-fail warning is acted on. -/
def State.endStartup (s : State) : State :=
  let s1 := { s with phase := .running }
  let s2 := s1.raise (.startup s1.startupFields)
  if s2.hist.pfLevel then s2.enterSaving else s2

/-- Completion of a reservation save (R55, R56). -/
def State.reserved (s : State) (limit : Nat) : State :=
  let s1 := { s with challenge := { s.challenge with blockEnd := limit, block := .reserved } }
  if s1.phase = .reserving then s1.endStartup else s1

/-- Completion of a class-1 save (R48, R49, R55, R56). -/
def State.keySaved (s : State) (k : KeySave) : State :=
  let s1 := { s with store := s.store.applyKeySave k }
  match k with
  | .reserve limit => s1.reserved limit
  | .key _ _ | .lock => if s1.link.waiting = some .keySave then s1.finishRequest .ok [] false else s1

/-- The save in progress completes and is reported to its owner (R142). -/
def State.completeSave (s : State) (sv : SaveInProgress) : State :=
  let s1 := { s with hist := { s.hist with saving := none } }
  match sv.job with
  | .key k => s1.keySaved k
  | .entry sl copy => s1.entrySaved sl copy sv.countsPf sv.countsFlush
  | .removal sl => s1.removalSaved sl

/-! ## The retained-store scan (R135, R146) -/

/-- A working entry from a closed slot. -/
def scannedEntry (sl : SlotId) (d : EntryData) : Entry :=
  ⟨d, sl, none, none, false, none, false⟩

/-- The closed slots, in slot order. -/
def Store.closedSlots (st : Store) : List Entry :=
  (List.finRange 64).filterMap (fun sl =>
    match st.slots[sl.val] with
    | .closed d => some (scannedEntry sl d)
    | _ => none)

/-- Put an entry among entries in stamp order, the greatest first; of equal stamps the lower slot first (log 24). -/
def insertByStamp (e : Entry) : List Entry → List Entry
  | [] => [e]
  | x :: xs => if x.data.stamp ≤ e.data.stamp then e :: x :: xs else x :: insertByStamp e xs

/-- The closed entries in stamp order. -/
def Store.scanOrder (st : Store) : List Entry := st.closedSlots.foldr insertByStamp []

/-- The entries the scan keeps: the first of each serial, hence the one with the greatest stamp (R146). -/
def keepFirst (seen : List Word64) : List Entry → List Entry
  | [] => []
  | e :: es =>
    if seen.contains e.data.serial then keepFirst seen es else e :: keepFirst (e.data.serial :: seen) es

/-- The entries the scan gives up: those whose serial stood before (R146). -/
def dropLater (seen : List Word64) : List Entry → List Entry
  | [] => []
  | e :: es =>
    if seen.contains e.data.serial then e :: dropLater seen es else dropLater (e.data.serial :: seen) es

/-- Free a slot that is OPEN (R146). -/
def StoredSlot.freeTorn : StoredSlot → StoredSlot
  | .opened => .free
  | x => x

/-- The number of OPEN slots (R146, R169). -/
def Store.tornCount (st : Store) : Nat := st.slots.toList.countP (fun x => x == .opened)

/-- The link-up sequence number the scan sets: one more than the greatest stamp, or 1 (R135). -/
def nextStamp (es : List Entry) : Nat := es.foldl (fun n e => max n e.data.stamp) 0 + 1

/-- The scan of the entry slots (R146): the working table, the removal saves of duplicate slots, the torn count and
the link-up sequence number, the table renumbered when that number would pass its end (R135). The removal saves become
dirty together, and stand in the order of the scan, greater stamp first; a renumbering's writes are dated after them
(DESIGN CHOICE, log 45). -/
def State.scanSlots (s : State) : State :=
  let order := s.store.scanOrder
  let kept := keepFirst [] order
  let full := nextStamp kept > maxStamp
  { s with
    store := { s.store with slots := s.store.slots.map StoredSlot.freeTorn }
    hist := { s.hist with
      table := if full then renumber (s.hist.writeOrder + 1) kept else kept
      removals := (dropLater [] order).map (fun e => ⟨e.slot, s.hist.writeOrder⟩)
      torn := s.store.tornCount
      linkSeq := if full then kept.length + 1 else nextStamp kept
      writeOrder := s.hist.writeOrder + 1 + kept.length } }

/-- The completion of the scan (R55, R169): the first block is asked for, or the counter is EXHAUSTED and start-up
ends. -/
def State.scanComplete (s : State) : State :=
  let s1 := s.scanSlots
  if s1.store.limit < Config.challengeEnd then
    { s1 with
      phase := .reserving
      hist := { s1.hist with keySaves := s1.hist.keySaves ++ [.reserve (s1.store.limit + Config.challengeBlock)] } }
  else State.endStartup { s1 with challenge := { s1.challenge with block := .exhausted } }

/-! ## Resets (R168, R169) -/

/-- What a save that a reset cuts leaves in the store (R47, R143, R144, R148): a class-1 save has landed or not; an
entry save leaves its slot OPEN, as it wrote it when it began; a removal save leaves its slot free or OPEN. The choice
is free (log 11). -/
def Store.cut (st : Store) (landed : Bool) : Option SaveInProgress → Store
  | none => st
  | some sv =>
    match sv.job with
    | .key k => if landed then st.applyKeySave k else st
    | .entry _ _ => st
    | .removal sl => if landed then st.setSlot sl .free else st

/-- The challenge counter as a start-up takes it from the store (R55). With V at 2^48 the rule gives no block end: it is V
there (DESIGN CHOICE, log 55). -/
def Store.challenge (st : Store) : ChallengeCounter :=
  ⟨st.limit, if st.limit < Config.challengeEnd then st.limit + Config.challengeBlock else st.limit, .reserving⟩

/-- Of two causes that hold during one reset, the one recorded (R168). -/
def StartCause.merge : StartCause → StartCause → StartCause
  | .powerOn, _ | _, .powerOn => .powerOn
  | .brownout, _ | _, .brownout => .brownout
  | .pin, _ | _, .pin => .pin
  | .restart, .restart => .restart

/-- A reset begins, or another cause is taken while one holds (R168): every volatile item takes its reset value, and
the store keeps what the cut save left. -/
def State.beginReset (s : State) (c : StartCause) : State :=
  let store := s.store.cut (Config.cutSaveLanded s.freeCount) s.hist.saving
  { State.reset with
    now := s.now
    pending := s.pending
    freeCount := s.freeCount + 1
    pins := s.pins
    cause := if s.phase = .inReset then s.cause.merge c else c
    store := store
    challenge := store.challenge }

/-- The reset ends (R5, R150, R168, R169, R173): start-up begins, the debouncers start, and the strap pins are sampled at
whatever levels they stand (a free value, log 50). -/
def State.endReset (s : State) : State :=
  { s with
    phase := .scanning
    bays := s.bays.map (fun v => { v with debounceAt := some (s.now + Config.debounceUs) })
    hist := { s.hist with pfAt := some (s.now + Config.pfDebounceUs) }
    freeCount := s.freeCount + 1
    pins := { s.pins with straps := Config.strapLevels s.freeCount }
    link := { s.link with rate := Config.strapLevels s.freeCount } }

end Sys2Proof.Machine
end

