-- ==== Sys2Proof/Machine/Metering.lean ====
section
/-! DEFINITION. The Metering Unit (R68 to R80): drop reports, the intake queue, the metering computation, and the
debit. -/

namespace Sys2Proof.Machine

/-! ## The intake queue (R69, R70) -/

/-- With no report in hand the oldest queued report is taken (R69, log 6). -/
def State.refillHand (s : State) : State :=
  match s.meterHand with
  | _ :: _ => s
  | [] =>
    match s.meterQueue with
    | [] => s
    | r :: rs => { s with meterHand := r, meterQueue := rs }

/-- A report names a channel. -/
def reportNames (r : List DropEntry) (c : ChanId) : Bool := r.any (fun e => e.chan == c)

/-- The entry of an arriving report that replaces one of the queued report (R70). -/
def replacement (arriving : List DropEntry) (e : DropEntry) : DropEntry :=
  match arriving.find? (fun x => x.chan == e.chan) with
  | some x => x
  | none => e

/-- Merge an arriving report into a queued one (R70): replace the entries of channels both name, add the others. -/
def mergeReport (queued arriving : List DropEntry) : List DropEntry :=
  queued.map (replacement arriving) ++ arriving.filter (fun e => !reportNames queued e.chan)

/-- A report joins the queue, or is merged into its youngest report, each channel both name counting a merge (R69,
R70), in the order of the arriving report's entries (DESIGN CHOICE, log 53). -/
def State.queueReport (s : State) (r : List DropEntry) : State :=
  if s.meterQueue.length < Config.meterCapacity then
    State.refillHand { s with meterQueue := s.meterQueue ++ [r] }
  else
    match s.meterQueue.getLast? with
    | none => s
    | some young =>
      let s1 := { s with meterQueue := s.meterQueue.dropLast ++ [mergeReport young r] }
      (r.filter (fun e => reportNames young e.chan)).foldl (fun t e => t.bumpMerges e.chan) s1

/-- The entries of a drop report's payload, none for a payload that is not 1 to 12 whole entries (R68). -/
def readReport (payload : List Byte) : Option (List (Option DropEntry)) :=
  let n := payload.length / 14
  if payload.length % 14 ≠ 0 ∨ n = 0 ∨ 12 < n then none
  else some ((pieces 14 n payload).map readDropEntry)

/-- A drop report is taken (R68): entries of no channel are counted, the last entry of a channel is kept. -/
def State.takeReport (s : State) (payload : List Byte) : State :=
  match readReport payload with
  | none => s.bumpBadFrames
  | some es =>
    let s1 := Nat.repeat State.bumpIgnored (es.countP Option.isNone) s
    match keepLast (es.filterMap id) with
    | [] => s1
    | r => s1.queueReport r

/-! ## The computation (R75 to R78) -/

/-- The delta of a class (R75). -/
def dropDelta (total base : Word32) : Nat := (total - base).toNat

/-- The three deltas of an entry. -/
def Totals.deltas (t base : Totals) : Nat × Nat × Nat :=
  (dropDelta t.t0 base.t0, dropDelta t.t1 base.t1, dropDelta t.t2 base.t2)

/-- An entry is a restart: a delta of 2^31 or more (R75). -/
def isRestart (d : Nat × Nat × Nat) : Bool := 2 ^ 31 ≤ d.1 || 2 ^ 31 ≤ d.2.1 || 2 ^ 31 ≤ d.2.2

/-- The raw volume, in 0.01 pl (R76). -/
def DropModel.raw (m : DropModel) (d : Nat × Nat × Nat) : Nat :=
  d.1 * m.v0.toNat + d.2.1 * m.v1.toNat + d.2.2 * m.v2.toNat

/-- The clamped head temperature (R77). -/
def clampTemp (theta : Byte) : Nat := clamp 5 70 theta.toNat

/-- The temperature factor k (R77). -/
def DropModel.factor (m : DropModel) (theta : Byte) : Nat :=
  (clampInt 768 1280 (1024 + m.slope * ((clampTemp theta : Int) - 25))).toNat

/-- The scaled volume (R77). -/
def scaledVolume (raw k rt : Nat) : Nat := raw * k + rt

/-- The accumulated volume (R78). -/
def accumulated (rv scaled : Nat) : Nat := rv + scaled / 1024

/-- The whole nanolitres of an accumulated volume (R78). -/
def wholeNl (acc : Nat) : Nat := acc / Config.unitsPerNl

/-! ## Where the ink goes (R79, R80) -/

/-- A debit of `n` nanolitres to a bay, and what follows a change of consumed (R79). -/
def State.debit (s : State) (b : BayId) (n : Nat) : State :=
  let s1 := s.modBay b (fun v => { v with owing := fit48 (v.owing + n) })
  ((s1.levelTests b).overdrawExam b).writeBackTrigger b false

/-- `n` nanolitres are added to a channel's unattributed volume (R80). -/
def State.addUnattributed (s : State) (c : ChanId) (n : Nat) : State :=
  let was := (s.meter c).unattributed
  let s1 := s.modMeter c (fun m => { m with unattributed := min Config.max32 (was + n) })
  if was = 0 ∧ n ≠ 0 then s1.raise (.meter c .unattributed) else s1

/-- The bay that ink of a channel is charged to: the active bay while SERVING (R79). -/
def Channel.chargedSide (h : Channel) : Option Side :=
  match h.state with
  | .serving => h.active
  | _ => none

/-- `n` nanolitres, more than 0, go to their place (R79). -/
def State.charge (s : State) (c : ChanId) (n : Nat) : State :=
  match (s.chan c).chargedSide with
  | some sd => s.debit (sideBay c sd) n
  | none => s.addUnattributed c n

/-- The metering state after an entry that is no restart (R75, R77, R78). -/
def Meter.advance (m : Meter) (base : Totals) (scaled : Nat) : Meter :=
  { m with base := some base, rt := scaled % 1024, rv := accumulated m.rv scaled % Config.unitsPerNl }

/-- A restart entry (R75): the baseline moves, RESTARTS counts, and a METER notice is raised. -/
def State.meterRestart (s : State) (e : DropEntry) : State :=
  State.raise ((s.modMeter e.chan (fun m => { m with base := some e.totals })).bumpRestarts e.chan)
    (.meter e.chan .restart)

/-- An entry whose drops are metered (R76 to R79). -/
def State.meterDrops (s : State) (e : DropEntry) (model : DropModel) (base : Totals) : State :=
  let m := s.meter e.chan
  let scaled := scaledVolume (model.raw (e.totals.deltas base)) (model.factor e.temp) m.rt
  let n := wholeNl (accumulated m.rv scaled)
  let s1 := s.setMeter e.chan (m.advance e.totals scaled)
  if n = 0 then s1 else s1.charge e.chan n

/-- An entry is taken (R73 to R79). -/
def State.meterEntry (s : State) (e : DropEntry) : State :=
  match (s.meter e.chan).model with
  | none => s.bumpIgnored
  | some model =>
    match (s.meter e.chan).base with
    | none => s.modMeter e.chan (fun m => { m with base := some e.totals })
    | some base => if isRestart (e.totals.deltas base) then s.meterRestart e else s.meterDrops e model base

end Sys2Proof.Machine
end

