-- ==== Sys2Proof/Machine/LinkIn.lean ====
section
/-! DEFINITION. The receive side of the host link (R151 to R154): the framer, the taking of a frame, the request
intake, and the taking of the oldest request for execution. -/

namespace Sys2Proof.Machine

/-! ## The framer (R151) -/

/-- Set the framer's condition. -/
def State.setFramer (s : State) (f : Framer) : State := { s with link := { s.link with framer := f } }

/-- A frame being assembled is abandoned (R150, R151). -/
def State.abandonFrame (s : State) : State := (s.setFramer .hunting).bumpBadFrames

/-- The frame that the bytes after 0xA5 spell (R177). -/
def frameOf (bs : List Byte) : HostFrame where
  kind := byteAt bs 1
  tag := byteAt bs 2
  payload := slice bs 3 (bs.length - 5)
  crc := BitVec.ofNat 16 (beNat (bs.drop (bs.length - 2)))

/-! ## Taking a frame (R152, R153) -/

/-- A request is offered to the intake (R153). -/
def State.offer (s : State) (f : HostFrame) : State :=
  if s.link.intake.length < Config.intakeCapacity then
    { s with link := { s.link with intake := s.link.intake ++ [⟨f.kind, f.tag, f.payload⟩] } }
  else s.answerNow f.kind f.tag .full

/-- A complete frame is taken (R152). -/
def State.takeFrame (s : State) (f : HostFrame) : State :=
  if frameCrc f ≠ f.crc then s.bumpBadFrames
  else if f.kind = dropReportKind then s.takeReport f.payload
  else
    match Req.ofCode f.kind with
    | none => s.answerNow f.kind f.tag .unknownKind
    | some r => if r.admits f.payload.length then s.offer f else s.answerNow f.kind f.tag .badLength

/-- A byte takes the next place of the frame being assembled (R151): a length above 240 abandons it, the second CRC
byte completes it. -/
def State.assemble (s : State) (bs : List Byte) : State :=
  let len := (byteAt bs 0).toNat
  if Config.maxPayload < len then s.abandonFrame
  else if bs.length = len + 5 then (s.setFramer .hunting).takeFrame (frameOf bs)
  else s.setFramer (.assembling bs s.now)

/-- A byte is received (R151). -/
def State.receiveByte (s : State) (x : Byte) : State :=
  match s.link.framer with
  | .hunting => if x = 0xA5 then s.setFramer (.assembling [] s.now) else s
  | .assembling bs _ => s.assemble (bs ++ [x])

/-! ## Execution (R154) -/

/-- The oldest request, when it is of a kind and may be taken for execution now: the three conditions of R154 alone. So
a request behind a RESTART may be executed after the RESTART's reply is placed and before its last byte resets the
part (DEDUCED, log 47). -/
def State.requestReady (s : State) (r : Req) : Option Request :=
  match s.link.intake with
  | [] => none
  | q :: _ =>
    if s.phase = .running ∧ s.link.waiting = none ∧ s.link.hasPlace = true ∧ q.kind = r.code then some q else none

/-- A place of the reply buffer is reserved for the request's reply (R154). -/
def State.reserve (s : State) : State := { s with link := { s.link with reserved := true } }

/-- The executing request is answered with a result that carries no fields. -/
def State.refuseRequest (s : State) (r : Result) : State := s.finishRequest r [] false

/-- The executing request is answered OK. -/
def State.answerOk (s : State) (fields : List Byte) : State := s.finishRequest .ok fields false

end Sys2Proof.Machine
end

