-- ==== Sys2Proof/Machine/Requests.lean ====
section
/-! DEFINITION. What each request does at its execution (R48 to R50, R96 to R99, R110, R111, R113, R121, R147, R148,
R161 to R167, R171, R172), over the payload its frame carried (R177). The reply takes the reserved place. -/

namespace Sys2Proof.Machine

/-! ## SET PART (R121, R161) -/

/-- The tests of SET PART: the thresholds of R121, and an age limit that is not 0 (R161). -/
def setPartOk (doubt refill age : Nat) : Bool := 1 ≤ doubt && doubt ≤ 254 && doubt < refill && age != 0

/-- The verdict evaluation of a bay's pinned entry at SET PART, with its notice of kind NONE when raised (R121,
R131). -/
def State.evaluateNoticed (s : State) (b : BayId) : State :=
  match s.pinnedBy b with
  | none => s
  | some e =>
    let new := s.scoreVerdict e.data.score
    if e.data.verdict.rank < new.rank then
      (s.evaluate b).raise (.verdict b ⟨some e.data.serial, .none, 0, e.data.score, new, true, 0⟩)
    else s

/-- SET PART (R121, R161). -/
def State.setPart (s : State) (p : List Byte) : State :=
  let doubt := (byteAt p 0).toNat
  let refill := (byteAt p 1).toNat
  let age := (byteAt p 2).toNat
  if setPartOk doubt refill age then
    let s1 := { s with doubtThreshold := doubt, refillThreshold := refill, ageLimit := age * 10 }
    (allBays.foldl State.evaluateNoticed s1).answerOk ([u8 doubt, u8 refill] ++ beBytes 2 (age * 10))
  else s.refuseRequest .badArgument

/-! ## CONFIGURE CHANNEL (R96 to R99) -/

/-- The two bays of a channel, A first: the order in which a CONFIGURE CHANNEL acts on them (DESIGN CHOICE, log 60). -/
def chanBays (c : ChanId) : List BayId := [sideBay c .a, sideBay c .b]

/-- The filter of a bay whose presence is high times the current raw reading (R19, R98, R99). -/
def State.restartFilter (s : State) (b : BayId) : State :=
  match s.bayConfig b with
  | some k =>
    if (s.bay b).debounced then s.modBay b (fun v => { v with probeAt := some (s.now + k.probeMs * 1000) }) else s
  | none => s

/-- A bay in PRESENT goes to link-up step 1 (R7, R98). -/
def State.linkIfPresent (s : State) (b : BayId) : State :=
  if (s.bay b).state = .present then s.startFirstLink b else s

/-- A first configuration (R71, R98). Of two PRESENT bays the A bay goes first (DESIGN CHOICE, log 60). -/
def State.firstConfig (s : State) (c : ChanId) (k : Settings) : State :=
  let s1 := s.modChan c (fun h => { h with config := some k, causes := { h.causes with unconfigured := false } })
  let s2 := s1.modMeter c (fun m => { m with model := some k.model, base := none, rt := 0, rv := 0 })
  let s3 := (chanBays c).foldl State.linkIfPresent s2
  ((chanBays c).foldl State.restartFilter s3).enterStarved c

/-- Do a thing for both bays of a channel when a setting has changed. -/
def State.forBays (s : State) (changed : Bool) (c : ChanId) (f : State → BayId → State) : State :=
  if changed then (chanBays c).foldl f s else s

/-- A reconfiguration (R71, R99): each changed setting's effect, then the channel's choice. The effects come in the order
of R99's table, which the rule does not say they do (DESIGN CHOICE, log 59). A step 4 whose ADVANCE a
lifted refusal has ended (R43, R90) goes on before the choice. -/
def State.reconfig (s : State) (c : ChanId) (old k : Settings) : State :=
  let s1 := s.modChan c (fun h => { h with config := some k })
  let s2 := s1.modMeter c (fun m => { m with model := some k.model })
  let s3 := s2.forBays (old.lowLevel != k.lowLevel) c State.levelTests
  let s4 := s3.forBays (old.quantumMl != k.quantumMl) c (fun t b => t.writeBackTrigger b false)
  let s5 := s4.forBays (old.nonGenuine != k.nonGenuine || old.refill != k.refill) c State.policyTestQuietly
  let s6 := s5.forBays (old.probeRef != k.probeRef || old.probeMs != k.probeMs) c State.restartFilter
  let s7 := s6.forBays (old.nonGenuine != k.nonGenuine || old.refill != k.refill) c (State.retryAfterAdvance s4)
  s7.choose c

/-- Both bays of a channel are EMPTY (R96). -/
def State.bothEmpty (s : State) (c : ChanId) : Bool :=
  (s.bay (sideBay c .a)).state == .empty && (s.bay (sideBay c .b)).state == .empty

/-- The OK reply of CONFIGURE CHANNEL (R96, R179). -/
def State.answerConfig (s : State) (c : ChanId) (first : Bool) (k : Settings) : State :=
  s.answerOk ([u8 c.val, yesNo first] ++ k.block)

/-- CONFIGURE CHANNEL: the four tests of R96 in order, then R98 or R99. -/
def State.configureChannel (s : State) (p : List Byte) : State :=
  match readChan (byteAt p 0), readSettings (p.drop 1) with
  | some c, some k =>
    if k.colour = 0 ∨ 63 < k.colour.toNat then s.refuseRequest .badArgument
    else
      match (s.chan c).config with
      | none => (s.firstConfig c k).answerConfig c true k
      | some old =>
        if old.colour ≠ k.colour ∧ ¬ s.bothEmpty c then s.refuseRequest .badState
        else (s.reconfig c old k).answerConfig c false k
  | _, _ => s.refuseRequest .badArgument

/-! ## Queries (R113, R162, R163) -/

/-- PART STATUS (R162). -/
def State.partStatus (s : State) : State := s.answerOk s.statusFields

/-- CHANNEL QUERY (R113). -/
def State.channelQuery (s : State) (p : List Byte) : State :=
  match readChan (byteAt p 0) with
  | some c => s.answerOk (s.chanRecord c)
  | none => s.refuseRequest .badArgument

/-- BAY QUERY (R163). -/
def State.bayQuery (s : State) (p : List Byte) : State :=
  match readBay (byteAt p 0) with
  | some b => s.answerOk (s.bayRecord b)
  | none => s.refuseRequest .badArgument

/-! ## HOLD and RELEASE (R110, R111) -/

/-- Replace a channel's hold-cause set, with a CHANNEL notice when it changes (R110, R111). -/
def State.setCauses (s : State) (c : ChanId) (h : HoldCauses) : State :=
  if (s.chan c).causes = h then s else (s.modChan c (fun x => { x with causes := h })).raise (.channel c)

/-- The fields of a HOLD or RELEASE reply: the channel's state and hold-cause set. -/
def State.holdFields (s : State) (c : ChanId) : List Byte := [(s.chan c).state.code, (s.chan c).causes.code]

/-- HOLD (R110). -/
def State.holdChannel (s : State) (p : List Byte) : State :=
  match readChan (byteAt p 0) with
  | some c =>
    let s1 := s.setCauses c { (s.chan c).causes with host := true }
    s1.answerOk (s1.holdFields c)
  | none => s.refuseRequest .badArgument

/-- RELEASE (R111). -/
def State.releaseChannel (s : State) (p : List Byte) : State :=
  match readChan (byteAt p 0) with
  | some c =>
    let s1 := s.setCauses c { (s.chan c).causes with host := false, latch := false }
    s1.answerOk (s1.holdFields c)
  | none => s.refuseRequest .badArgument

/-! ## Keys (R48, R49, R50) -/

/-- A slot number of a payload. -/
def readSlot (x : Byte) : Option (Fin 4) := if h : x.toNat < 4 then some ⟨x.toNat, h⟩ else none

/-- A class-1 save is asked for, and the request waits for it. -/
def State.askKeySave (s : State) (k : KeySave) : State :=
  State.waitFor { s with hist := { s.hist with keySaves := s.hist.keySaves ++ [k] } } .keySave

/-- LOAD KEY (R48). -/
def State.loadKey (s : State) (p : List Byte) : State :=
  match readSlot (byteAt p 0) with
  | none => s.refuseRequest .badArgument
  | some slot =>
    if s.store.locked then s.refuseRequest .locked
    else s.askKeySave (.key slot (BitVec.ofNat 128 (beNat (slice p 1 16))))

/-- LOCK KEYS (R49). -/
def State.lockKeys (s : State) : State :=
  if s.store.locked then s.refuseRequest .locked else s.askKeySave .lock

/-- KEY CHECK (R50). -/
def State.keyCheck (s : State) (p : List Byte) : State :=
  match readSlot (byteAt p 0) with
  | none => s.refuseRequest .badArgument
  | some slot =>
    match s.store.keys[slot.val] with
    | none => s.refuseRequest .emptySlot
    | some k => s.answerOk (u8 slot.val :: beBytes 8 (keyCheckValue k).toNat)

/-! ## Cartridge blocks (R164, R165) -/

/-- A bay is linking up, or LOST (R164, R165 test on state). -/
def Bay.unsettled (v : Bay) : Bool := v.step.isSome || v.state == .linking || v.state == .lost

/-- CART READ (R164). -/
def State.cartReadRequest (s : State) (p : List Byte) : State :=
  let block := (byteAt p 1).toNat
  match readBay (byteAt p 0) with
  | none => s.refuseRequest .badArgument
  | some b =>
    if 63 < block then s.refuseRequest .badArgument
    else if (s.bay b).identity = none then s.refuseRequest .notPresent
    else if (s.bay b).unsettled then s.refuseRequest .badState
    else (s.waitFor (.cartRead b block)).enqueue b .service (.readBlock block) none

/-- The blocks of a CART WRITE payload with their numbers (R165, R177). -/
def writeBlocks (first : Nat) (p : List Byte) : List (Nat × List Byte) :=
  let n := (p.length - 2) / 8
  (List.range n).map (fun i => (first + i, slice p (2 + 8 * i) 8))

/-- All blocks lie in the user area, 48 to 63 (R165). -/
def inUserArea (first n : Nat) : Bool := 48 ≤ first && first + n ≤ 64

/-- CART WRITE (R165). -/
def State.cartWriteRequest (s : State) (p : List Byte) : State :=
  let first := (byteAt p 1).toNat
  match readBay (byteAt p 0) with
  | none => s.refuseRequest .badArgument
  | some b =>
    if ¬ inUserArea first ((p.length - 2) / 8) then s.refuseRequest .isProtected
    else if (s.bay b).identity = none then s.finishRequest .notPresent [u8 b.val, 0, 0xFF] false
    else if (s.bay b).unsettled then s.refuseRequest .badState
    else
      match writeBlocks first p with
      | [] => s.refuseRequest .badLength
      | (block, d) :: rest => (s.waitFor (.cartWrite b 0 rest)).enqueue b .service (.writeBlock block d) none

/-! ## The seen table (R147, R148) -/

/-- The bytes of an entry in a HISTORY READ reply. -/
def entryBytes : Nat := 40

/-- HISTORY READ (R147, R178). -/
def State.historyRead (s : State) (p : List Byte) : State :=
  let pos := (byteAt p 0).toNat
  if 63 < pos then s.refuseRequest .badArgument
  else
    match s.hist.table[pos]? with
    | none => s.answerOk (u8 pos :: 0 :: List.replicate entryBytes 0)
    | some e => s.answerOk (u8 pos :: 1 :: e.fields)

/-- HISTORY FORGET (R148). -/
def State.historyForget (s : State) (p : List Byte) : State :=
  let serial : Word64 := BitVec.ofNat 64 (beNat (slice p 0 8))
  match s.entryOf? serial with
  | none => s.refuseRequest .notPresent
  | some e =>
    if e.pin.isSome then s.refuseRequest .badState
    else
      let s1 := s.dropEntry serial
      State.waitFor
        { s1 with hist := { s1.hist with
            removals := s1.hist.removals ++ [⟨e.slot, s1.hist.writeOrder⟩]
            writeOrder := s1.hist.writeOrder + 1 } }
        (.forget e.slot serial e.data.owed e.data.inDoubt)

/-! ## COUNTERS READ (R80, R167) -/

/-- The counters of a scope and their half-scale flags are cleared; a channel's unattributed volume with them. -/
def State.clearCounters (s : State) : Scope → State
  | .bay b =>
    s.modBay b (fun v =>
      { v with noReplyCtr := .zero, malformedCtr := .zero, challengeFailCtr := .zero, writeBacksCtr := .zero })
  | .chan c => s.modMeter c (fun m => { m with merges := .zero, restarts := .zero, unattributed := 0 })
  | .link =>
    { s with link := { s.link with badFrames := .zero, droppedRefusals := .zero, ignoredEntries := .zero } }

/-- The unattributed volume a COUNTERS READ reply carries: 0 outside a channel scope (R178, log 26). -/
def State.scopeUnattributed (s : State) : Scope → Nat
  | .chan c => (s.meter c).unattributed
  | _ => 0

/-- COUNTERS READ (R167). -/
def State.countersRead (s : State) (p : List Byte) : State :=
  match readScope (byteAt p 0) with
  | none => s.refuseRequest .badArgument
  | some sc =>
    (s.clearCounters sc).answerOk (sc.code :: s.counterValues sc ++ beBytes 4 (s.scopeUnattributed sc))

end Sys2Proof.Machine
end

