-- ==== Sys2Proof/Machine/CmdBay.lean ====
section
/-! DEFINITION. The commands of the bay lines, the bay timers and the channel timers (R5 to R8, R19 to R21, R82,
R104). A command whose timer is stopped, or that comes while the part is in reset, has no effect (log 1). -/

namespace Sys2Proof.Machine

/-! ## Presence (R5, R6, R18) -/

/-- A bay's presence input takes a level. -/
def State.setPresence (s : State) (b : BayId) (high : Bool) : State :=
  { s with pins := { s.pins with presence := s.pins.presence.set b.val high } }

/-- The debounce timer after a change of the raw input: running while it differs from the debounced level (R5). -/
def Bay.retime (v : Bay) (high : Bool) (due : Nat) : Bay :=
  { v with debounceAt := if high = v.debounced then none else some due }

/-- PRESENCE_INPUT_CHANGE (R5). -/
def execPresenceInputChange (b : BayId) (high : Bool) (s : State) : Host.Outcome State Fault Refusal :=
  if s.up ∧ high ≠ s.rawPresence b then
    .next ((s.setPresence b high).modBay b (fun v => v.retime high (s.now + Config.debounceUs)))
  else .next (s.setPresence b high)

/-- A debounced rise (R6, R19): SETTLING, the settle timer, and the probe filter of a configured channel. -/
def State.presenceRise (s : State) (b : BayId) : State :=
  ((s.modBay b (fun v =>
    { v with debounced := true, state := .settling, settleAt := some (s.now + Config.settleUs), probe := .unknown
             probeAt := none })).restartFilter b).raise (.bay b)

/-- PRESENCE_DEBOUNCE_EXPIRY (R5): a rise (R6) or a removal (R18), when the raw input is still changed. -/
def execPresenceDebounceExpiry (b : BayId) (s : State) : Host.Outcome State Fault Refusal :=
  match (s.bay b).debounceAt with
  | none => .next s
  | some t =>
    let s1 := (s.advanceTo t).modBay b (fun v => { v with debounceAt := none })
    if s1.rawPresence b = (s1.bay b).debounced then .next s1
    else if s1.rawPresence b then .next (s1.presenceRise b).transmit
    else .next (s1.removal b).conclude

/-! ## Settling and relinking (R7, R8) -/

/-- SETTLE_TIMER_EXPIRY (R7). -/
def execSettleTimerExpiry (b : BayId) (s : State) : Host.Outcome State Fault Refusal :=
  match (s.bay b).settleAt with
  | none => .next s
  | some t =>
    let s1 := (s.advanceTo t).modBay b (fun v => { v with settleAt := none })
    if (s1.bayConfig b).isSome then .next (s1.startFirstLink b).transmit
    else .next ((s1.modBay b (fun v => { v with state := .present })).raise (.bay b)).transmit

/-- RELINK_TIMER_EXPIRY (R8): a relink, or a first link-up of a LOST bay that holds no identity. A timer that a lifting
started (R17) while a link-up runs only stops (log 18). -/
def execRelinkTimerExpiry (b : BayId) (s : State) : Host.Outcome State Fault Refusal :=
  match (s.bay b).relinkAt with
  | none => .next s
  | some t =>
    let s1 := (s.advanceTo t).modBay b (fun v => { v with relinkAt := none })
    if (s1.bay b).step.isSome then .next s1
    else if (s1.bay b).identity.isSome then .next (s1.startLinkUp b).transmit
    else .next (s1.startFirstLink b).transmit

/-! ## The outlet probe (R19 to R21) -/

/-- A bay's probe signal takes a value. -/
def State.setProbe (s : State) (b : BayId) (signal : BitVec 16) : State :=
  { s with pins := { s.pins with probe := s.pins.probe.set b.val signal } }

/-- The comparator (R19): ink present when the signal lies above r/32 of the supply. -/
def readsInk (signal : BitVec 16) (ref : Nat) : Bool := ref * 2048 < signal.toNat

/-- The filtered state a raw reading stands for. -/
def readingState (ink : Bool) : ProbeState := if ink then .inkPresent else .inkAbsent

/-- The filter timer after the raw reading changed: running while it differs from the filtered state (R19). -/
def Bay.refilter (v : Bay) (ink : Bool) (due : Nat) : Bay :=
  { v with probeAt := if v.probe = readingState ink then none else some due }

/-- A changed signal at a bay whose filter runs (R19). -/
def State.probeMoved (s : State) (b : BayId) (old new : BitVec 16) : State :=
  match s.bayConfig b with
  | none => s
  | some k =>
    if (s.bay b).debounced ∧ readsInk old k.probeRef ≠ readsInk new k.probeRef then
      s.modBay b (fun v => v.refilter (readsInk new k.probeRef) (s.now + k.probeMs * 1000))
    else s

/-- PROBE_READING_CHANGE (R19). -/
def execProbeReadingChange (b : BayId) (signal : BitVec 16) (s : State) : Host.Outcome State Fault Refusal :=
  .next ((s.setProbe b signal).probeMoved b (s.probeSignal b) signal)

/-- A bay on which a filtered change to ink absent acts (R20). -/
def Bay.actsOnAbsent (v : Bay) : Bool :=
  v.step.isNone && (v.state == .ready || v.state == .active || (v.state == .lost && v.identity.isSome))

/-- A bay outside SPENT on which a first INK_PRESENT is scored when the probe-empty-seen flag is set (R21, R125): READY
or ACTIVE, or LOST since the completion that left the probe UNKNOWN, with an identity and no relink step running
(DEDUCED, log 51). -/
def Bay.awaitsReturn (v : Bay) : Bool :=
  v.state == .ready || v.state == .active ||
    (v.state == .lost && v.returnAwaited && v.identity.isSome && v.step.isNone)

/-- The bay record at a filtered change: an INK_PRESENT established is awaited no longer (R125). -/
def Bay.filtered (v : Bay) (p : ProbeState) : Bay :=
  { v with probe := p, returnAwaited := v.returnAwaited && p != .inkPresent }

/-- A filtered change of the probe state (R19, R20, R21, R125): where no rule acts, only the record is updated. -/
def State.probeChanged (s : State) (b : BayId) (p : ProbeState) : State :=
  let v := s.bay b
  let s1 := s.modBay b (fun v => v.filtered p)
  match p with
  | .inkAbsent => if v.actsOnAbsent then s1.inkAbsent b else s1
  | .inkPresent =>
    if v.state = .spent then s1.inkReturns b
    else if v.awaitsReturn && v.probeEmptySeen then s1.probeReturn b
    else s1
  | .unknown => s1

/-- The filtered state that a bay's raw reading stands for under its channel's reference level. -/
def State.rawProbe (s : State) (b : BayId) (k : Settings) : ProbeState :=
  readingState (readsInk (s.probeSignal b) k.probeRef)

/-- PROBE_FILTER_EXPIRY (R19). -/
def execProbeFilterExpiry (b : BayId) (s : State) : Host.Outcome State Fault Refusal :=
  match (s.bay b).probeAt, s.bayConfig b with
  | some t, some k =>
    let s1 := (s.advanceTo t).modBay b (fun v => { v with probeAt := none })
    if (s1.bay b).probe = s1.rawProbe b k then .next s1
    else .next (s1.probeChanged b (s1.rawProbe b k)).transmit
  | _, _ => .next s

/-! ## The write-back timer (R82, R83) -/

/-- WRITE_BACK_TIMER_EXPIRY (R82): the trigger is evaluated; the timer stays stopped while a METER entry is there. -/
def execWriteBackTimerExpiry (b : BayId) (s : State) : Host.Outcome State Fault Refusal :=
  match (s.bay b).writeBackAt with
  | none => .next s
  | some t =>
    let s1 := (s.advanceTo t).modBay b (fun v => { v with writeBackAt := none })
    let s2 := s1.writeBackTrigger b true
    if (s2.busEntry b .meter).isSome then .next s2 else .next (s2.startWriteBack b)

/-! ## The valve switch timer (R104) -/

/-- The channel record at the expiry of the valve switch timer (R104). -/
def Channel.serve (h : Channel) : Channel :=
  { h with
    state := .serving
    former := none
    switchAt := none
    everServed := true
    causes := { h.causes with changing := false } }

/-- VALVE_SWITCH_TIMER_EXPIRY (R104): the channel serves, and a choice follows. -/
def execValveSwitchTimerExpiry (c : ChanId) (s : State) : Host.Outcome State Fault Refusal :=
  match (s.chan c).switchAt with
  | none => .next s
  | some t =>
    if (s.chan c).state = .changing then
      let s1 := ((s.advanceTo t).modChan c Channel.serve).raise (.channel c)
      .next (s1.choose c).transmit
    else .next s

end Sys2Proof.Machine
end

