-- ==== Sys2Proof/Machine/CmdBus.lean ====
section
/-! DEFINITION. The commands of the bay bus (R28, R29, R37 to R39). A command that its segment's exchange or split
write does not call for has no effect (log 1). -/

namespace Sys2Proof.Machine

/-- The arbiter's choice (R37), with no exchange in flight. -/
def State.arbitrate (s : State) (g : Segment) : State :=
  if s.setCodeEligible (s.seg g) then s.sendSetCode g
  else
    match s.chooseEntry (s.seg g) with
    | some e => s.takeBusEntry e
    | none => s

/-- ARBITER_TAKE (R37). -/
def execArbiterTake (g : Segment) (s : State) : Host.Outcome State Fault Refusal :=
  if (s.seg g).exchange = none then .next (s.arbitrate g).sweepExhausted.conclude else .next s

/-- The reply window of a segment opens (R28). -/
def State.openWindow (s : State) (g : Segment) (x : Exchange) : State :=
  s.modSeg g (fun c => { c with exchange := some { x with window := some s.now } })

/-- The last byte of a segment's frame is sent (R26, R28). -/
def State.frameSent (s : State) (g : Segment) (x : Exchange) : State :=
  match x.what with
  | .setCode serves => s.setCodeEnds g serves
  | .entry _ _ _ => s.openWindow g x

/-- BUS_FRAME_END (R28). -/
def execBusFrameEnd (g : Segment) (s : State) : Host.Outcome State Fault Refusal :=
  match (s.seg g).exchange with
  | none => .next s
  | some x => if x.window = none then .next ((s.advanceTo x.endsAt).frameSent g x) else .next s

/-- A segment's exchange with its open reply window. -/
def State.openExchange (s : State) (g : Segment) : Option (Exchange × Nat) :=
  match (s.seg g).exchange with
  | none => none
  | some x =>
    match x.window with
    | none => none
    | some w => some (x, w)

/-- BUS_REPLY_TAKEN (R28, R29): a reply that does not match is stale and counts for nothing. -/
def execBusReplyTaken (g : Segment) (bytes : List Byte) (s : State) : Host.Outcome State Fault Refusal :=
  match s.openExchange g with
  | none => .next s
  | some (x, w) =>
    if x.matchesReply bytes then
      .next ((s.advanceTo (w + Config.busByteUs * bytes.length)).takeReply g x bytes).sweepExhausted.conclude
    else .next s

/-- BUS_REPLY_GAP_TIMEOUT (R28): a reply of which 200 microseconds pass without a byte is complete as it stands. -/
def execBusReplyGapTimeout (g : Segment) (bytes : List Byte) (s : State) : Host.Outcome State Fault Refusal :=
  match s.openExchange g with
  | none => .next s
  | some (x, w) =>
    if x.matchesReply bytes then
      .next ((s.advanceTo (w + Config.busByteUs * bytes.length + Config.replyGapUs)).takeReply g x
        bytes).sweepExhausted.conclude
    else .next s

/-- BUS_REPLY_WINDOW_TIMEOUT (R28). -/
def execBusReplyWindowTimeout (g : Segment) (s : State) : Host.Outcome State Fault Refusal :=
  match s.openExchange g with
  | none => .next s
  | some (x, w) =>
    .next ((s.advanceTo (w + Config.replyWindowUs)).noReplyTaken g x).sweepExhausted.conclude

/-- An entry whose poll falls due (R34, R38). -/
def BusEntry.pollNow (e : BusEntry) : BusEntry :=
  { e with state := .pollDue, split := e.split.map (fun w => { w with pollAt := none }) }

/-- POLL_DUE (R38). -/
def execPollDue (b : BayId) (s : State) : Host.Outcome State Fault Refusal :=
  match s.splitEntry b with
  | none => .next s
  | some e =>
    match e.split.bind (fun w => w.pollAt) with
    | none => .next s
    | some t => .next ((s.advanceTo t).modEntry b e.cls BusEntry.pollNow)

/-- A split write whose deadline passes while its poll is in flight (R39). -/
def BusEntry.passDeadline (e : BusEntry) : BusEntry :=
  { e with split := e.split.map (fun w => { w with deadlinePassed := true }) }

/-- SPLIT_WRITE_DEADLINE (R39): the write ends BUSY_TIMEOUT, or waits for its poll in flight. -/
def execSplitWriteDeadline (b : BayId) (s : State) : Host.Outcome State Fault Refusal :=
  match s.splitEntry b with
  | none => .next s
  | some e =>
    match e.split with
    | none => .next s
    | some w =>
      if w.deadlinePassed then .next s
      else if e.state = .onBus then .next ((s.advanceTo w.deadline).modEntry b e.cls BusEntry.passDeadline)
      else .next ((s.advanceTo w.deadline).endTransaction e .busyTimeout .busyTimeout 0 []).conclude

end Sys2Proof.Machine
end

