-- ==== Sys2Proof/Machine/CmdLink.lean ====
section
/-! DEFINITION. The commands of the host link and of the Metering Unit (R68, R73, R150 to R153, R156, R172). Bytes
received while the part is in reset are lost (R160). -/

namespace Sys2Proof.Machine

/-- FRAME_RECEIVED (R152): a whole frame arrives; one with more than 240 payload bytes is abandoned (R151). -/
def execFrameReceived (f : HostFrame) (s : State) : Host.Outcome State Fault Refusal :=
  if s.up then
    if Config.maxPayload < f.payload.length then .next s.abandonFrame.transmit
    else .next ((s.setFramer .hunting).takeFrame f).transmit
  else .next s

/-- A frame being assembled is abandoned; a hunting framer has nothing to abandon (R150, R151). -/
def State.lineBreak (s : State) : State :=
  match s.link.framer with
  | .hunting => s
  | .assembling _ _ => s.abandonFrame

/-- LINK_FRAMING_ERROR (R150). -/
def execLinkFramingError (s : State) : Host.Outcome State Fault Refusal :=
  if s.up then .next s.lineBreak.transmit else .next s

/-- The clock at the end of a gap (R151). -/
def State.advanceGap (s : State) : State :=
  match s.link.framer with
  | .hunting => s
  | .assembling _ t => s.advanceTo (t + Config.linkGapUs)

/-- LINK_GAP_TIMEOUT (R151). -/
def execLinkGapTimeout (s : State) : Host.Outcome State Fault Refusal :=
  if s.up then .next s.advanceGap.lineBreak.transmit else .next s

/-- RECEIVED_BYTE (R151). -/
def execReceivedByte (x : Byte) (s : State) : Host.Outcome State Fault Refusal :=
  if s.up then .next (s.receiveByte x).transmit else .next s

/-- TAKE_DROP_ENTRY (R69, R73). -/
def execTakeDropEntry (s : State) : Host.Outcome State Fault Refusal :=
  match s.meterHand with
  | [] => .next s
  | e :: es => .next ({ s with meterHand := es }.meterEntry e).refillHand.transmit

/-- LINK_FRAME_SENT (R156): the next frame begins; the last byte of a RESTART's reply resets the part (R172), and that
reset ends at once (R168, log 10). -/
def execLinkFrameSent (s : State) : Host.Outcome State Fault Refusal :=
  match s.link.tx with
  | none => .next s
  | some f =>
    let s1 := { s with link := { s.link with tx := none } }
    if f.restart then .next (s1.beginReset .restart).endReset else .next s1.transmit

end Sys2Proof.Machine
end

