-- ==== Sys2Proof/Machine/CmdRequest.lean ====
section
/-! DEFINITION. The request commands (8.2): each executes the oldest request of the intake when it is of its kind and
R154 lets it be taken; else it has no effect (log 1). -/

namespace Sys2Proof.Machine

/-- PART_STATUS (R162). -/
def execPartStatus (s : State) : Host.Outcome State Fault Refusal :=
  match s.requestReady .partStatus with
  | none => .next s
  | some _ => .next s.reserve.partStatus.transmit

/-- SET_PART (R121, R161). -/
def execSetPart (s : State) : Host.Outcome State Fault Refusal :=
  match s.requestReady .setPart with
  | none => .next s
  | some q => .next (s.reserve.setPart q.payload).transmit

/-- CONFIGURE_CHANNEL (R96 to R99). -/
def execConfigureChannel (s : State) : Host.Outcome State Fault Refusal :=
  match s.requestReady .configureChannel with
  | none => .next s
  | some q => .next (s.reserve.configureChannel q.payload).transmit

/-- CHANNEL_QUERY (R113). -/
def execChannelQuery (s : State) : Host.Outcome State Fault Refusal :=
  match s.requestReady .channelQuery with
  | none => .next s
  | some q => .next (s.reserve.channelQuery q.payload).transmit

/-- BAY_QUERY (R163). -/
def execBayQuery (s : State) : Host.Outcome State Fault Refusal :=
  match s.requestReady .bayQuery with
  | none => .next s
  | some q => .next (s.reserve.bayQuery q.payload).transmit

/-- HOLD (R110). -/
def execHold (s : State) : Host.Outcome State Fault Refusal :=
  match s.requestReady .hold with
  | none => .next s
  | some q => .next (s.reserve.holdChannel q.payload).transmit

/-- RELEASE (R111). -/
def execRelease (s : State) : Host.Outcome State Fault Refusal :=
  match s.requestReady .release with
  | none => .next s
  | some q => .next (s.reserve.releaseChannel q.payload).transmit

/-- LOAD_KEY (R48). -/
def execLoadKey (s : State) : Host.Outcome State Fault Refusal :=
  match s.requestReady .loadKey with
  | none => .next s
  | some q => .next (s.reserve.loadKey q.payload).transmit

/-- LOCK_KEYS (R49). -/
def execLockKeys (s : State) : Host.Outcome State Fault Refusal :=
  match s.requestReady .lockKeys with
  | none => .next s
  | some _ => .next s.reserve.lockKeys.transmit

/-- KEY_CHECK (R50). -/
def execKeyCheck (s : State) : Host.Outcome State Fault Refusal :=
  match s.requestReady .keyCheck with
  | none => .next s
  | some q => .next (s.reserve.keyCheck q.payload).transmit

/-- CART_READ (R164). -/
def execCartRead (s : State) : Host.Outcome State Fault Refusal :=
  match s.requestReady .cartRead with
  | none => .next s
  | some q => .next (s.reserve.cartReadRequest q.payload).transmit

/-- CART_WRITE (R165). -/
def execCartWrite (s : State) : Host.Outcome State Fault Refusal :=
  match s.requestReady .cartWrite with
  | none => .next s
  | some q => .next (s.reserve.cartWriteRequest q.payload).transmit

/-- HISTORY_READ (R147). -/
def execHistoryRead (s : State) : Host.Outcome State Fault Refusal :=
  match s.requestReady .historyRead with
  | none => .next s
  | some q => .next (s.reserve.historyRead q.payload).transmit

/-- HISTORY_FORGET (R148). -/
def execHistoryForget (s : State) : Host.Outcome State Fault Refusal :=
  match s.requestReady .historyForget with
  | none => .next s
  | some q => .next (s.reserve.historyForget q.payload).conclude

/-- COUNTERS_READ (R167). -/
def execCountersRead (s : State) : Host.Outcome State Fault Refusal :=
  match s.requestReady .countersRead with
  | none => .next s
  | some q => .next (s.reserve.countersRead q.payload).transmit

/-- FLUSH (R171). -/
def execFlush (s : State) : Host.Outcome State Fault Refusal :=
  match s.requestReady .flush with
  | none => .next s
  | some _ => .next s.reserve.formFlush.conclude

/-- RESTART (R172): the flush of R171; the reply's last byte resets the part. -/
def execRestart (s : State) : Host.Outcome State Fault Refusal :=
  match s.requestReady .restart with
  | none => .next s
  | some _ => .next s.reserve.formFlush.conclude

end Sys2Proof.Machine
end

