-- ==== Sys2Proof/Machine/CmdPower.lean ====
section
/-! DEFINITION. The commands of resets, start-up, the retained store and the power-fail warning (R142, R143, R146,
R168, R169, R173). A command that the part's phase does not call for has no effect (log 1). -/

namespace Sys2Proof.Machine

/-- POWER_ON (R168). -/
def execPowerOn (s : State) : Host.Outcome State Fault Refusal := .next (s.beginReset .powerOn)

/-- BROWNOUT (R168). -/
def execBrownout (s : State) : Host.Outcome State Fault Refusal := .next (s.beginReset .brownout)

/-- PIN_RESET (R168). -/
def execPinReset (s : State) : Host.Outcome State Fault Refusal := .next (s.beginReset .pin)

/-- RESET_END (R169). -/
def execResetEnd (s : State) : Host.Outcome State Fault Refusal :=
  if s.phase = .inReset then .next s.endReset else .next s

/-- STORE_SCAN_COMPLETE (R146, R169). -/
def execStoreScanComplete (s : State) : Host.Outcome State Fault Refusal :=
  if s.phase = .scanning then .next s.scanComplete.conclude else .next s

/-- STORE_SAVE_BEGIN (R142): the idle store begins the next save. -/
def execStoreSaveBegin (s : State) : Host.Outcome State Fault Refusal :=
  if s.hist.saving = none then .next s.beginSave else .next s

/-- STORE_SAVE_COMPLETE (R143). -/
def execStoreSaveComplete (s : State) : Host.Outcome State Fault Refusal :=
  match s.hist.saving with
  | none => .next s
  | some sv => .next (s.completeSave sv).conclude

/-- The warning's debounce timer after a change of the raw input (R173). -/
def HistoryUnit.retimePf (h : HistoryUnit) (asserted : Bool) (due : Nat) : HistoryUnit :=
  { h with pfAt := if asserted = h.pfLevel then none else some due }

/-- PFWARN_INPUT_CHANGE (R173). -/
def execPfwarnInputChange (asserted : Bool) (s : State) : Host.Outcome State Fault Refusal :=
  let s1 := { s with pins := { s.pins with pfwarn := asserted } }
  if s.up ∧ asserted ≠ s.pins.pfwarn then
    .next (s1.modHist (fun h => h.retimePf asserted (s.now + Config.pfDebounceUs)))
  else .next s1

/-- PFWARN_DEBOUNCE_EXPIRY (R173): during start-up the change waits for its end (R169). -/
def execPfwarnDebounceExpiry (s : State) : Host.Outcome State Fault Refusal :=
  match s.hist.pfAt with
  | none => .next s
  | some t =>
    let s1 := (s.advanceTo t).modHist (fun h => { h with pfAt := none })
    if s1.pins.pfwarn = s1.hist.pfLevel then .next s1
    else
      let s2 := s1.modHist (fun h => { h with pfLevel := s1.pins.pfwarn })
      if s2.phase = .running then .next s2.pfChanged.conclude else .next s2

end Sys2Proof.Machine
end

