-- ==== Sys2Proof/Machine/Dispatch.lean ====
section
/-! DEFINITION. One arm for each command: its meaning. -/

namespace Sys2Proof.Machine

def exec (i : Instr) (s : State) : Host.Outcome State Fault Refusal :=
  match i with
  | .presenceInputChange bay high => Sys2Proof.Machine.execPresenceInputChange bay high s
  | .presenceDebounceExpiry bay => Sys2Proof.Machine.execPresenceDebounceExpiry bay s
  | .settleTimerExpiry bay => Sys2Proof.Machine.execSettleTimerExpiry bay s
  | .relinkTimerExpiry bay => Sys2Proof.Machine.execRelinkTimerExpiry bay s
  | .probeReadingChange bay signal => Sys2Proof.Machine.execProbeReadingChange bay signal s
  | .probeFilterExpiry bay => Sys2Proof.Machine.execProbeFilterExpiry bay s
  | .writeBackTimerExpiry bay => Sys2Proof.Machine.execWriteBackTimerExpiry bay s
  | .valveSwitchTimerExpiry chan => Sys2Proof.Machine.execValveSwitchTimerExpiry chan s
  | .arbiterTake seg => Sys2Proof.Machine.execArbiterTake seg s
  | .busFrameEnd seg => Sys2Proof.Machine.execBusFrameEnd seg s
  | .busReplyTaken seg bytes => Sys2Proof.Machine.execBusReplyTaken seg bytes s
  | .busReplyGapTimeout seg bytes => Sys2Proof.Machine.execBusReplyGapTimeout seg bytes s
  | .busReplyWindowTimeout seg => Sys2Proof.Machine.execBusReplyWindowTimeout seg s
  | .pollDue bay => Sys2Proof.Machine.execPollDue bay s
  | .splitWriteDeadline bay => Sys2Proof.Machine.execSplitWriteDeadline bay s
  | .frameReceived frame => Sys2Proof.Machine.execFrameReceived frame s
  | .linkFramingError => Sys2Proof.Machine.execLinkFramingError s
  | .linkGapTimeout => Sys2Proof.Machine.execLinkGapTimeout s
  | .takeDropEntry => Sys2Proof.Machine.execTakeDropEntry s
  | .partStatus => Sys2Proof.Machine.execPartStatus s
  | .setPart => Sys2Proof.Machine.execSetPart s
  | .configureChannel => Sys2Proof.Machine.execConfigureChannel s
  | .channelQuery => Sys2Proof.Machine.execChannelQuery s
  | .bayQuery => Sys2Proof.Machine.execBayQuery s
  | .hold => Sys2Proof.Machine.execHold s
  | .release => Sys2Proof.Machine.execRelease s
  | .loadKey => Sys2Proof.Machine.execLoadKey s
  | .lockKeys => Sys2Proof.Machine.execLockKeys s
  | .keyCheck => Sys2Proof.Machine.execKeyCheck s
  | .cartRead => Sys2Proof.Machine.execCartRead s
  | .cartWrite => Sys2Proof.Machine.execCartWrite s
  | .historyRead => Sys2Proof.Machine.execHistoryRead s
  | .historyForget => Sys2Proof.Machine.execHistoryForget s
  | .countersRead => Sys2Proof.Machine.execCountersRead s
  | .flush => Sys2Proof.Machine.execFlush s
  | .restart => Sys2Proof.Machine.execRestart s
  | .linkFrameSent => Sys2Proof.Machine.execLinkFrameSent s
  | .powerOn => Sys2Proof.Machine.execPowerOn s
  | .brownout => Sys2Proof.Machine.execBrownout s
  | .pinReset => Sys2Proof.Machine.execPinReset s
  | .resetEnd => Sys2Proof.Machine.execResetEnd s
  | .storeScanComplete => Sys2Proof.Machine.execStoreScanComplete s
  | .storeSaveBegin => Sys2Proof.Machine.execStoreSaveBegin s
  | .storeSaveComplete => Sys2Proof.Machine.execStoreSaveComplete s
  | .pfwarnInputChange asserted => Sys2Proof.Machine.execPfwarnInputChange asserted s
  | .pfwarnDebounceExpiry => Sys2Proof.Machine.execPfwarnDebounceExpiry s
  | .receivedByte byte => Sys2Proof.Machine.execReceivedByte byte s

end Sys2Proof.Machine
end

