-- ==== Sys2Proof/Safety.lean ====
section
/-! DEFINITION. What claims say of a state: the properties that every command keeps. -/

namespace Sys2Proof.Machine

/-- A channel's record fits its state (R94, R95): each state other than SERVING carries its own hold cause. -/
def Channel.fits (h : Channel) : Prop :=
  (h.state = .unconfigured → h.causes.unconfigured = true) ∧
  (h.state = .changing → h.causes.changing = true) ∧
  (h.state = .starved → h.causes.starved = true)

/-- Every channel's record fits its state (R95). -/
def State.channelsFit (s : State) : Prop := ∀ c : ChanId, (s.chan c).fits

/-- The serials of the seen table, in its order. -/
def HistoryUnit.serials (h : HistoryUnit) : List Word64 := h.table.map (fun e => e.data.serial)

/-- No two entries of the seen table have the same serial (R133). -/
def State.serialsDistinct (s : State) : Prop := s.hist.serials.Nodup

/-- The notice queue holds at most 8 notices, it holds 8 whenever a backlog flag is set, and no flag stands twice: the
map is held in drain order (R157, R158). -/
def State.noticesFit (s : State) : Prop :=
  s.link.notices.length ≤ Config.noticeCapacity ∧
  (s.link.backlog ≠ [] → s.link.notices.length = Config.noticeCapacity) ∧
  s.link.backlog.Pairwise (fun x y => x.key.rank < y.key.rank)

/-- The limit a class-1 save asks for, when it is a reservation (R54). -/
def KeySave.limits : KeySave → List Nat
  | .reserve limit => [limit]
  | _ => []

/-- The limit the save in progress asks for. -/
def SaveJob.limits : SaveJob → List Nat
  | .key k => k.limits
  | _ => []

/-- The reservations that wait or are in progress (R55, R56). -/
def HistoryUnit.limitsAsked (h : HistoryUnit) : List Nat :=
  h.keySaves.flatMap KeySave.limits ++
    (match h.saving with
     | some sv => sv.job.limits
     | none => [])

/-- The challenge counter is safe (R54): while a nonce may be drawn, the next value lies below the block end and the
block end is not above the reserved limit in the store; a reservation that is asked for reserves the next value and
stands alone; and before start-up has read the store no value beyond its limit is the next one. -/
def State.noncesSafe (s : State) : Prop :=
  (s.challenge.block = .reserved →
    s.challenge.next < s.challenge.blockEnd ∧ s.challenge.blockEnd ≤ s.store.limit ∧ s.hist.limitsAsked = []) ∧
  (∀ limit ∈ s.hist.limitsAsked, s.challenge.next < limit) ∧
  s.hist.limitsAsked.length ≤ 1 ∧
  ((s.phase = .inReset ∨ s.phase = .scanning) →
    s.challenge.next = s.store.limit ∧ s.challenge.block = .reserving ∧ s.hist.limitsAsked = [])

/-- A save of class 1 that writes a key slot or the lock state (R48, R49). -/
def KeySave.writesKeys : KeySave → Bool
  | .key _ _ | .lock => true
  | .reserve _ => false

/-- The save of class 1 that a save in progress makes. -/
def SaveJob.keySaves : SaveJob → List KeySave
  | .key k => [k]
  | _ => []

/-- The key and lock saves that wait or are in progress. -/
def HistoryUnit.keyWork (h : HistoryUnit) : List KeySave :=
  (h.keySaves ++
    (match h.saving with
     | some sv => sv.job.keySaves
     | none => [])).filter KeySave.writesKeys

/-- At most one key or lock save is asked for, the executing request waits for it, and none is asked for once the lock
state is locked (R48, R49). -/
def State.keyWorkFits (s : State) : Prop :=
  s.hist.keyWork.length ≤ 1 ∧
  (s.hist.keyWork ≠ [] → s.link.waiting = some .keySave ∧ s.store.locked = false)

/-- The transmitter is idle only when no reply and no notice waits (R156). -/
def State.transmitterBusy (s : State) : Prop := s.link.tx = none → s.link.replies = [] ∧ s.link.notices = []

/-! ## Requests and their replies (R154 to R156) -/

/-- The frames of the reply being sent and of the replies that wait, in the order they leave (R156). -/
def LinkUnit.replyFrames (li : LinkUnit) : List (List Byte) :=
  (match li.tx with
   | some f => if f.notice then [] else [f.bytes]
   | none => []) ++
    li.replies.map (fun r => hostFrameBytes replyKind r.tag r.payload)

/-- The frame that answers a request: its tag, its kind, the result code and the fields the result carries (R155). -/
def replyFrame (q : Request) (r : Result) (fields : List Byte) : List Byte :=
  hostFrameBytes replyKind q.tag (q.kind :: r.code :: fields)

/-- The oldest request of the intake is `q`, it is of the kind `r`, and it may be taken for execution now (R154). -/
def State.executable (s : State) (r : Req) (q : Request) (rest : List Request) : Prop :=
  s.phase = .running ∧ s.link.waiting = none ∧ s.link.intake = q :: rest ∧ q.kind = r.code ∧
    s.link.placesTaken < Config.replyPlaces

/-- The request `q` has left the intake, no place stays reserved, and one more reply frame is to leave: its answer
(R154, R155). -/
def State.answered (s t : State) (q : Request) (rest : List Request) (r : Result) (fields : List Byte) : Prop :=
  t.link.intake = rest ∧ t.link.waiting = none ∧ t.link.reserved = false ∧
    t.link.replyFrames = s.link.replyFrames ++ [replyFrame q r fields]

/-- `t` differs from `s` at most in the Link Interface. -/
def State.sameOutsideLink (s t : State) : Prop := t = { s with link := t.link }

/-- The receive side, the link counters and the notices are the same; only requests and replies may differ. -/
def LinkUnit.onlyAnswers (a b : LinkUnit) : Prop :=
  b = { a with intake := b.intake, waiting := b.waiting, reserved := b.reserved, replies := b.replies, tx := b.tx }

/-- An executing request was answered and the command did nothing else. -/
def State.onlyAnswered (s t : State) (q : Request) (rest : List Request) (r : Result) (fields : List Byte) : Prop :=
  s.answered t q rest r fields ∧ s.sameOutsideLink t ∧ s.link.onlyAnswers t.link

/-! ## Exchanges on the bay bus (R28, R29, R180) -/

/-- The segment of bay `b` has its exchange `x` for the bay's entry `e` of class `k` open to a reply: a POLL when `poll`,
else the entry's own frame (R28). -/
def State.openFor (s : State) (b : BayId) (k : EntryClass) (poll : Bool) (x : Exchange) (e : BusEntry) : Prop :=
  (s.seg (baySeg b)).exchange = some x ∧ x.window.isSome = true ∧ x.what = .entry b k poll ∧ x.abandoned = false ∧
    x.slot < 16 ∧ s.busEntry b k = some e ∧ e.bay = b ∧ e.cls = k

/-- A reply of a kind to the exchange, with its CRC (R180). -/
def Exchange.reply (x : Exchange) (kind : Nat) (data : List Byte) : List Byte :=
  let body := x.code :: u8 (x.slot * 16 + kind) :: x.seq :: data
  body ++ [crc8 body]

/-- The 21 bytes of a DONE to IDENT (R180): the identity record, the counter and the mark. -/
def identData (i : Identity) (o : Observed) : List Byte :=
  leBytes 8 i.serial.toNat ++ [i.colour, u8 i.keyGen.toNat] ++ leBytes 2 i.nominalMl.toNat ++ [i.writeBusy] ++
    leBytes 2 i.week.toNat ++ leBytes 5 o.counter.toNat ++ [yesNo o.mark]

/-- Another bay pins an entry of the serial (R11). -/
def State.pinnedElsewhere (s : State) (b : BayId) (serial : Word64) : Prop :=
  ∃ y ∈ s.hist.table, y.data.serial = serial ∧ ∃ p, y.pin = some p ∧ p ≠ b

/-- A counter that one more event lifts, saturating at 255, with its half-scale flag (R166). -/
def Counter.after (c : Counter) : Counter := ⟨min 255 (c.value + 1), c.half || c.value == 127⟩

/-! ## Notices (R156 to R159) -/

/-- A notice of the kind and subject waits in the queue, or its backlog flag is set (R157, R158). -/
def LinkUnit.holdsNotice (li : LinkUnit) (k : NoticeKey) : Prop :=
  (∃ f ∈ li.backlog, f.key = k) ∨ ∃ n ∈ li.notices, n.key = k

/-- A notice of the kind and subject was raised: ATTN is asserted, and the notice waits or is flagged whenever the
transmitter was sending (an idle transmitter may have begun it at once). -/
def State.notified (s t : State) (k : NoticeKey) : Prop :=
  t.attn = true ∧ (s.link.tx ≠ none → t.link.holdsNotice k)

/-- Only the notices, and what is being sent, may differ; no reply was placed and no request touched. -/
def LinkUnit.onlyNotices (a b : LinkUnit) : Prop :=
  b = { a with replies := b.replies, notices := b.notices, backlog := b.backlog, noticeSeq := b.noticeSeq, tx := b.tx } ∧
    b.replyFrames = a.replyFrames

/-- As onlyNotices, for an event that may also count on the link (R166). -/
def LinkUnit.onlyReceived (a b : LinkUnit) : Prop :=
  b = { a with
    framer := b.framer, replies := b.replies, notices := b.notices, backlog := b.backlog, noticeSeq := b.noticeSeq
    tx := b.tx, badFrames := b.badFrames, droppedRefusals := b.droppedRefusals, ignoredEntries := b.ignoredEntries }

/-- The bytes are received one after another (R151). -/
def feedBytes : List Byte → State → Host.Outcome State Fault Refusal
  | [], s => .next s
  | x :: xs, s =>
    match exec (.receivedByte x) s with
    | .next t => feedBytes xs t
    | o => o

/-- The bytes of a frame after its start byte, as they are sent (R151, R177). -/
def sentBytes (f : HostFrame) : List Byte :=
  u8 f.payload.length :: f.kind :: f.tag :: f.payload ++ beBytes 2 f.crc.toNat

/-! ## Frames of a state -/

/-- Every bay but `b` has the record it had. -/
def State.otherBays (s t : State) (b : BayId) : Prop := ∀ x, x ≠ b → t.bay x = s.bay x

/-- Every bay of a channel other than `c` has the record it had. -/
def State.baysElsewhere (s t : State) (c : ChanId) : Prop := ∀ x, bayChan x ≠ c → t.bay x = s.bay x

/-- Every channel but `c` has the record it had. -/
def State.otherChans (s t : State) (c : ChanId) : Prop := ∀ x, x ≠ c → t.chan x = s.chan x

/-- What no bay, channel or link rule touches: the clock's inputs, the pins, the phase, the part settings, the metering
state, the challenge counter and the store are the same. -/
def State.sameSettings (s t : State) : Prop :=
  t.pending = s.pending ∧ t.pins = s.pins ∧ t.phase = s.phase ∧ t.cause = s.cause ∧ t.ageLimit = s.ageLimit ∧
    t.doubtThreshold = s.doubtThreshold ∧ t.refillThreshold = s.refillThreshold ∧ t.meters = s.meters ∧
    t.meterQueue = s.meterQueue ∧ t.meterHand = s.meterHand ∧ t.challenge = s.challenge ∧ t.store = s.store

end Sys2Proof.Machine
end

