-- ==== Sys2Proof/Certificates/Slice0/Obligations.lean ====
section
/-! DEFINITION. The statements about the model, for the provers. Each docstring names the rule of spec/ or, where the
statement rests on a choice of the model, the log entry. -/

open Sys2Proof Sys2Proof.Machine

/-! ## The block and its commands -/

/-- Chapter 95: every command is taken whole, the one at the front of the queue first. On an empty queue one microsecond
passes and nothing else happens (log 3, DESIGN CHOICE). -/
def Obligations.StepRunsTheFrontCommand : Prop :=
  (∀ (c : Instr) (rest : List Instr) (s : State),
    step { s with pending := c :: rest } = exec c { s with pending := rest }) ∧
  ∀ s : State, s.pending = [] → step s = .next { s with now := s.now + 1 }

/-! ## Resets and start-up -/

/-- The values of R2, R46, R47, R54, R58, R71, R94, R116, R133, R135, R137, R149, R160, R161 and R173 in the first reset: of
every bay record with its waiting SETUP requests and its authentication context, of the segment controllers, the channels
and their metering state, the stored keys, lock, limit and slots, the challenge counter, the History Unit with its
power-fail set, and the Link Interface with the request it executes. -/
def Obligations.ResetStateHoldsTheResetValues : Prop :=
  (∀ b, State.reset.bay b =
    { state := .empty, step := none, refusal := none, debounced := false, debounceAt := none, probe := .unknown
      probeAt := none, identity := none, observed := none, auth := .none, verdict := .clean, score := 0, committed := 0
      doubt := 0, inFlight := 0, owing := 0, advSeq := 0, writeBacks := 0, writeBackAt := none, settleAt := none
      relinkAt := none, lowWarned := false, countedOut := false, probeEmptySeen := false, returnAwaited := false
      linkLost := false, overdrawScored := 0, lastOutcome := none, noReplyCtr := ⟨0, false⟩, malformedCtr := ⟨0, false⟩
      challengeFailCtr := ⟨0, false⟩, writeBacksCtr := ⟨0, false⟩, ctx := ⟨none, .none, 0, false⟩
      waitRechallenge := false, waitMark := false, advanceSinceIdent := false }) ∧
  (∀ c, State.reset.chan c =
    { state := .unconfigured, config := none, active := none, former := none, valve := .a
      causes := ⟨true, false, false, false, false⟩, switchAt := none, everServed := false }) ∧
  (∀ c, State.reset.meter c = ⟨none, none, 0, 0, 0, ⟨0, false⟩, ⟨0, false⟩⟩) ∧
  State.reset.meterQueue = [] ∧ State.reset.meterHand = [] ∧
  (∀ g, State.reset.seg g = ⟨0, 0, [], none, [], none⟩) ∧
  State.reset.ageLimit = 500 ∧ State.reset.doubtThreshold = 8 ∧ State.reset.refillThreshold = 32 ∧
  State.reset.hist.table = [] ∧ State.reset.hist.keySaves = [] ∧ State.reset.hist.removals = [] ∧
  State.reset.hist.saving = none ∧ State.reset.hist.linkSeq = 1 ∧ State.reset.hist.lostOwed = 0 ∧
  State.reset.hist.lastNotice = none ∧ State.reset.hist.pf = .normal ∧ State.reset.hist.pfLevel = false ∧
  State.reset.hist.pfSet = [] ∧ State.reset.link.waiting = none ∧
  State.reset.link.framer = .hunting ∧ State.reset.link.intake = [] ∧ State.reset.link.replies = [] ∧
  State.reset.link.reserved = false ∧ State.reset.link.notices = [] ∧ State.reset.link.backlog = [] ∧
  State.reset.link.noticeSeq = 0 ∧ State.reset.link.tx = none ∧ State.reset.link.badFrames = ⟨0, false⟩ ∧
  State.reset.link.droppedRefusals = ⟨0, false⟩ ∧ State.reset.link.ignoredEntries = ⟨0, false⟩ ∧
  (∀ k : Fin 4, State.reset.store.keys[k.val] = none) ∧ State.reset.store.locked = false ∧
  State.reset.store.limit = 0 ∧ (∀ sl : SlotId, State.reset.store.slots[sl.val] = .free) ∧
  State.reset.challenge.next = 0 ∧ State.reset.challenge.block = .reserving

/-- R168: what a reset does, whichever of the three causes that are commands is taken, and which cause it records. A
save in progress is cut off: what it leaves is free between the two stores named (log 11). -/
def Obligations.ResetClearsVolatileState : Prop :=
  ∀ (s : State) (c : Instr) (k : StartCause),
    (c = .powerOn ∧ k = .powerOn) ∨ (c = .brownout ∧ k = .brownout) ∨ (c = .pinReset ∧ k = .pin) →
    ∃ t, exec c s = .next t ∧
      t.phase = .inReset ∧
      (s.phase ≠ .inReset → t.cause = k) ∧
      (s.phase = .inReset → (t.cause = k ∨ t.cause = s.cause) ∧ t.cause.code ≤ k.code ∧ t.cause.code ≤ s.cause.code) ∧
      t.bays = State.reset.bays ∧ t.chans = State.reset.chans ∧ t.meters = State.reset.meters ∧
      t.meterQueue = [] ∧ t.meterHand = [] ∧ t.segL = State.reset.segL ∧ t.segR = State.reset.segR ∧
      t.hist = State.reset.hist ∧ t.link = State.reset.link ∧ t.ageLimit = 500 ∧ t.doubtThreshold = 8 ∧
      t.refillThreshold = 32 ∧
      (∀ ch, t.holdLine ch = true ∧ t.valveLine ch = .a) ∧ t.attn = false ∧
      t.pins = s.pins ∧ t.pending = s.pending ∧ t.now = s.now ∧
      (t.store = s.store ∨ t.store = s.store.cut true s.hist.saving) ∧
      (s.hist.saving = none → t.store = s.store) ∧
      t.challenge.next = t.store.limit ∧ t.challenge.block = .reserving

/-- R5, R150, R169, R173: the end of a reset begins start-up; every debouncer starts as though its input had just
changed, the straps are sampled, at whatever levels they stand then (a free value, log 50), and nothing else changes. -/
def Obligations.ResetEndBeginsStartUp : Prop :=
  ∀ s : State, s.phase = .inReset →
    ∃ t, exec .resetEnd s = .next t ∧ t.phase = .scanning ∧
      (∀ b, t.bay b = { s.bay b with debounceAt := some (s.now + 50000) }) ∧
      t.hist = { s.hist with pfAt := some (s.now + 1000) } ∧ t.link = { s.link with rate := t.pins.straps } ∧
      t.pins = { s.pins with straps := t.pins.straps } ∧
      t = { s with
        freeCount := t.freeCount, pins := t.pins, phase := t.phase, bays := t.bays, hist := t.hist, link := t.link }

/-- R135, R146, R169: the scan. With no stored stamp at its end, the working table holds one clean, unpinned entry for
each serial of the closed slots, the one with the greatest stamp, in stamp order; the other closed slots await a removal
save; the open slots are counted as torn and freed; and the first reservation is asked for, or the counter is EXHAUSTED
and start-up ends. -/
def Obligations.ScanBuildsTheWorkingTable : Prop :=
  ∀ s : State, s.phase = .scanning →
    (∀ (sl : SlotId) (d : EntryData), s.store.slots[sl.val] = .closed d → d.stamp < 2 ^ 32 - 1) →
    ∃ t, exec .storeScanComplete s = .next t ∧
      (∀ e ∈ t.hist.table, e.pin = none ∧ e.dirty = none ∧ e.saving = false ∧ e.data.stamp < t.hist.linkSeq ∧
        s.store.slots[e.slot.val] = .closed e.data) ∧
      (∀ (sl : SlotId) (d : EntryData), s.store.slots[sl.val] = .closed d →
        (∃ e ∈ t.hist.table, e.data.serial = d.serial ∧ d.stamp ≤ e.data.stamp) ∧
        ((∃ e ∈ t.hist.table, e.slot = sl) ↔ ¬ ∃ r ∈ t.hist.removals, r.slot = sl)) ∧
      t.hist.serials.Nodup ∧
      t.hist.table.Pairwise (fun x y => y.data.stamp ≤ x.data.stamp) ∧
      (t.hist.table = [] → t.hist.linkSeq = 1) ∧
      (∀ x xs, t.hist.table = x :: xs → t.hist.linkSeq = x.data.stamp + 1) ∧
      t.hist.torn = s.store.slots.toList.countP (fun x => x == .opened) ∧
      (∀ sl : SlotId, t.store.slots[sl.val] =
        if s.store.slots[sl.val] = .opened then .free else s.store.slots[sl.val]) ∧
      t.store = { s.store with slots := t.store.slots } ∧ t.bays = s.bays ∧ t.chans = s.chans ∧
      (s.store.limit < 2 ^ 48 →
        t.phase = .reserving ∧ t.challenge = s.challenge ∧
        t.hist.keySaves = s.hist.keySaves ++ [.reserve (s.store.limit + 4096)]) ∧
      (¬ s.store.limit < 2 ^ 48 →
        t.phase = .running ∧ t.challenge.block = .exhausted ∧ t.hist.keySaves = s.hist.keySaves)

/-! ## The retained store -/

/-- R142: the idle arbiter begins the oldest save of class 1; else the power-fail save of the lowest bay, refreshed as it
begins (R174); else the save, of an entry or a removal, with the earliest dirty time; and it begins none when none
waits. An entry's or removal's slot reads OPEN from then on (R143, R144). -/
def Obligations.StoreArbiterBeginsTheFirstClass : Prop :=
  ∀ s : State, s.hist.saving = none →
    (∀ k ks, s.hist.keySaves = k :: ks →
      exec .storeSaveBegin s =
        .next { s with hist := { s.hist with keySaves := ks, saving := some ⟨.key k, true, true⟩ } }) ∧
    (∀ (b : BayId) (e : Entry) (i : Identity), s.hist.keySaves = [] → s.pinnedBy b = some e → e.pfSave = true →
      (s.bay b).identity = some i → (∀ x e', x < b → s.pinnedBy x = some e' → e'.pfSave = false) →
      ∃ t, exec .storeSaveBegin s = .next t ∧
        t.hist.saving = some ⟨.entry e.slot (refreshData (s.bay b) i b (s.meterAccepted b) e.data), true, true⟩ ∧
        t.store = { s.store with slots := s.store.slots.set e.slot.val .opened } ∧
        t.bays = s.bays ∧ t.chans = s.chans ∧ t.link = s.link ∧ t.challenge = s.challenge) ∧
    (s.hist.keySaves = [] → (∀ b e, s.pinnedBy b = some e → e.pfSave = false) →
      (∀ e d, e ∈ s.hist.table → e.dirty = some d →
        (∀ x u, x ∈ s.hist.table → x ≠ e → x.dirty = some u → d < u) → (∀ r ∈ s.hist.removals, d ≤ r.dirty) →
        ∃ t, exec .storeSaveBegin s = .next t ∧ t.hist.saving = some ⟨.entry e.slot e.data, true, true⟩ ∧
          t.store = { s.store with slots := s.store.slots.set e.slot.val .opened } ∧
          t.bays = s.bays ∧ t.chans = s.chans ∧ t.link = s.link ∧ t.challenge = s.challenge) ∧
      (∀ r ∈ s.hist.removals, (∀ x ∈ s.hist.removals, x ≠ r → r.dirty < x.dirty) →
        (∀ e u, e ∈ s.hist.table → e.dirty = some u → r.dirty < u) →
        ∃ t, exec .storeSaveBegin s = .next t ∧ t.hist.saving = some ⟨.removal r.slot, true, true⟩ ∧
          t.store = { s.store with slots := s.store.slots.set r.slot.val .opened } ∧
          t.hist.table = s.hist.table ∧ t.bays = s.bays ∧ t.chans = s.chans ∧ t.link = s.link ∧
          t.challenge = s.challenge) ∧
      ((∀ e ∈ s.hist.table, e.dirty = none) → s.hist.removals = [] → exec .storeSaveBegin s = .next s))

/-- R143, R144: at the completion of an entry's save the slot is CLOSED with the copy taken when the save began, and the
entry is clean unless a write reached it since; at the completion of a removal save the slot is free, and a HISTORY
FORGET that waits for it is answered with the serial and the amounts (R148). No other slot changes. -/
def Obligations.EntrySaveCompletes : Prop :=
  ∀ (s : State) (sl : SlotId) (p f : Bool),
    (∀ copy, s.hist.saving = some ⟨.entry sl copy, p, f⟩ →
      ∃ t, exec .storeSaveComplete s = .next t ∧ t.hist.saving = none ∧
        t.store = { s.store with slots := s.store.slots.set sl.val (.closed copy) } ∧
        t.hist.table = s.hist.table.map (fun e =>
          if e.slot = sl ∧ e.saving = true then { e with dirty := e.rewrite, saving := false, rewrite := none }
          else e) ∧
        t.bays = s.bays ∧ t.chans = s.chans ∧ t.meters = s.meters ∧ t.challenge = s.challenge) ∧
    (s.hist.saving = some ⟨.removal sl, p, f⟩ →
      ∃ t, exec .storeSaveComplete s = .next t ∧ t.hist.saving = none ∧
        t.store = { s.store with slots := s.store.slots.set sl.val .free } ∧
        ((∀ b, (s.bay b).step ≠ some .reconcile) →
          t.hist.table = s.hist.table ∧ t.bays = s.bays ∧ t.chans = s.chans ∧
          ∀ serial owed inDoubt q rest, s.link.waiting = some (.forget sl serial owed inDoubt) →
            s.link.intake = q :: rest →
            s.answered t q rest .ok (beBytes 8 serial.toNat ++ beBytes 6 owed ++ beBytes 6 inDoubt)))

/-- R48, R49, R56: a key, the lock state and a reserved limit take effect as their save completes, and a LOAD KEY or LOCK
KEYS that waits is then answered OK. -/
def Obligations.KeySaveTakesEffectAtItsCompletion : Prop :=
  ∀ (s : State) (p f : Bool),
    (∀ (slot : Fin 4) (k : Key) (q : Request) (rest : List Request), s.hist.saving = some ⟨.key (.key slot k), p, f⟩ →
      s.link.waiting = some .keySave → s.link.intake = q :: rest →
      ∃ t, exec .storeSaveComplete s = .next t ∧ t.hist.saving = none ∧
        t.store = { s.store with keys := s.store.keys.set slot.val (some k) } ∧ s.answered t q rest .ok [] ∧
        t.bays = s.bays ∧ t.chans = s.chans ∧ t.hist.table = s.hist.table ∧ t.challenge = s.challenge) ∧
    (∀ (q : Request) (rest : List Request), s.hist.saving = some ⟨.key .lock, p, f⟩ →
      s.link.waiting = some .keySave → s.link.intake = q :: rest →
      ∃ t, exec .storeSaveComplete s = .next t ∧ t.hist.saving = none ∧ t.store = { s.store with locked := true } ∧
        s.answered t q rest .ok [] ∧ t.bays = s.bays ∧ t.chans = s.chans ∧ t.hist.table = s.hist.table ∧
        t.challenge = s.challenge) ∧
    (∀ limit, s.hist.saving = some ⟨.key (.reserve limit), p, f⟩ → s.phase = .running →
      ∃ t, exec .storeSaveComplete s = .next t ∧ t.hist.saving = none ∧ t.store = { s.store with limit := limit } ∧
        t.challenge = { s.challenge with blockEnd := limit, block := .reserved } ∧ t.bays = s.bays ∧
        t.chans = s.chans ∧ t.hist.table = s.hist.table)

/-- R55, R169, R170: start-up ends as the first reservation's save completes. With no reply waiting and no frame being
sent the STARTUP notice is sent at once, with sequence number 0, and ATTN is asserted. -/
def Obligations.ReservationEndsStartUp : Prop :=
  ∀ (s : State) (limit : Nat) (p f : Bool), s.phase = .reserving →
    s.hist.saving = some ⟨.key (.reserve limit), p, f⟩ → s.hist.pfLevel = false → s.hist.pf = .normal →
    s.link.tx = none → s.link.replies = [] → s.link.notices = [] → s.link.backlog = [] → s.link.noticeSeq = 0 →
    s.link.waiting = none →
    ∃ t, exec .storeSaveComplete s = .next t ∧ t.phase = .running ∧
      t.challenge = { s.challenge with blockEnd := limit, block := .reserved } ∧
      t.store = { s.store with limit := limit } ∧ t.bays = s.bays ∧ t.chans = s.chans ∧
      t.hist = { s.hist with saving := none } ∧ t.attn = true ∧
      t.link = { s.link with
        noticeSeq := 1
        tx := some ⟨hostFrameBytes 0x81 0
          [s.cause.code, u8 s.hist.torn, u8 s.hist.table.length, u8 s.store.keyMask.toNat, yesNo s.store.locked,
           BlockState.reserved.code, u8 s.link.rate.toNat], true, false⟩ }

/-! ## The power-fail warning and flushes -/

/-- R173, R174: the power-fail states. A debounced assertion in NORMAL or RESUMING forms the power-fail set anew, of the
entries pinned or dirty (log 48, DEDUCED), and leads to SAVING, or on to SAVED when the set is empty; an unpinned entry
whose save is in progress is to be saved again (log 49, DEDUCED); a debounced withdrawal leads from
SAVING to RESUMING, or on to NORMAL when the set is done, and from SAVED to NORMAL. The bays' figures, the channels and
the store are unchanged. -/
def Obligations.PowerFailStatesMove : Prop :=
  ∀ (s : State) (due : Nat), s.hist.pfAt = some due → s.phase = .running →
    (s.pins.pfwarn = true → s.hist.pfLevel = false → s.hist.pf = .normal ∨ s.hist.pf = .resuming →
      ∃ t, exec .pfwarnDebounceExpiry s = .next t ∧ t.hist.pfLevel = true ∧ t.hist.pfAt = none ∧
        t.hist.pfSet = (s.hist.table.filter (fun e => e.pin.isSome || e.dirty.isSome)).map
          (fun e => ⟨e.data.serial, false⟩) ∧
        t.hist.pf = (if t.hist.pfSet = [] then .saved else .saving) ∧ t.powerFail = true ∧
        (∀ e ∈ t.hist.table, e.pin.isSome = true → e.pfSave = true) ∧
        (∀ e ∈ t.hist.table, e.pin = none → e.dirty.isSome = true → e.saving = true → e.rewrite.isSome = true) ∧
        t.bays = s.bays ∧ t.chans = s.chans ∧ t.store = s.store ∧ t.challenge = s.challenge ∧
        t.segL = s.segL ∧ t.segR = s.segR) ∧
    (s.pins.pfwarn = false → s.hist.pfLevel = true → s.hist.pf = .saving ∨ s.hist.pf = .saved →
      ∃ t, exec .pfwarnDebounceExpiry s = .next t ∧ t.hist.pfLevel = false ∧ t.hist.pfAt = none ∧
        t.hist.pf =
          (if s.hist.pf = .saving ∧ ¬ (∀ m ∈ s.hist.pfSet, m.done = true) then .resuming else .normal) ∧
        t.hist.pfSet = s.hist.pfSet ∧ t.hist.table = s.hist.table ∧ t.bays = s.bays ∧ t.chans = s.chans ∧
        t.store = s.store ∧ t.challenge = s.challenge ∧ t.segL = s.segL ∧ t.segR = s.segR)

/-- R138, R171, R172: FLUSH and RESTART refresh every pinned entry from its bay and then wait for the entries that were
pinned or dirty, an unpinned one whose save is in progress to be saved again (log 49, DEDUCED); with none, they are
answered OK at once with the count 0. Bays, channels and the store are unchanged. -/
def Obligations.FlushFormsItsSet : Prop :=
  ∀ (s : State) (c : Instr) (r : Req) (q : Request) (rest : List Request),
    (c = .flush ∧ r = .flush) ∨ (c = .restart ∧ r = .restart) → s.executable r q rest → s.serialsDistinct →
    ∃ t, exec c s = .next t ∧ t.bays = s.bays ∧ t.chans = s.chans ∧ t.store = s.store ∧ t.challenge = s.challenge ∧
      t.hist.table.map (fun e => (e.data.serial, e.pin, e.slot)) =
        s.hist.table.map (fun e => (e.data.serial, e.pin, e.slot)) ∧
      (∀ b e i, s.pinnedBy b = some e → (s.bay b).identity = some i →
        ∃ x ∈ t.hist.table, x.data.serial = e.data.serial ∧ x.dirty.isSome = true ∧
          x.data = refreshData (s.bay b) i b (s.meterAccepted b) e.data) ∧
      (∀ e ∈ t.hist.table, e.pin = none → e.dirty.isSome = true → e.saving = true → e.rewrite.isSome = true) ∧
      (let set := (s.hist.table.filter (fun e => e.pin.isSome || e.dirty.isSome)).map
          (fun e => (⟨e.data.serial, false⟩ : SetMember))
       (set ≠ [] → t.link.waiting = some (.flush set) ∧ t.link.reserved = true ∧ t.link.intake = q :: rest) ∧
       (set = [] → s.answered t q rest .ok [0]))

/-! ## Presence, settling and link-up -/

/-- R5, R173: a change of a bay's raw presence input starts its 50 ms timer, and a change of the raw power-fail warning its
1 ms timer; a return to the debounced level stops it; nothing else changes. That only the input is recorded while the
part is in reset, and where the input does not change, is the model's choice (log 1, DESIGN CHOICE). -/
def Obligations.InputChangesStartTheirTimers : Prop :=
  (∀ (s : State) (b : BayId) (x : Bool),
     ∃ t, exec (.presenceInputChange b x) s = .next t ∧
       t.pins = { s.pins with presence := s.pins.presence.set b.val x } ∧
       t.bay b = { s.bay b with
         debounceAt :=
           if s.phase ≠ .inReset ∧ x ≠ s.rawPresence b then
             (if x = (s.bay b).debounced then none else some (s.now + 50000))
           else (s.bay b).debounceAt } ∧
       s.otherBays t b ∧ t = { s with pins := t.pins, bays := t.bays }) ∧
  (∀ (s : State) (x : Bool),
     ∃ t, exec (.pfwarnInputChange x) s = .next t ∧ t.pins = { s.pins with pfwarn := x } ∧
       t.hist = { s.hist with
         pfAt :=
           if s.phase ≠ .inReset ∧ x ≠ s.pins.pfwarn then (if x = s.hist.pfLevel then none else some (s.now + 1000))
           else s.hist.pfAt } ∧
       t = { s with pins := t.pins, hist := t.hist })

/-- R5, R6, R19: a debounced rise. The bay settles for 200 ms, its probe state is UNKNOWN and its filter runs when its
channel is configured, and a BAY notice is raised. -/
def Obligations.PresenceRiseBeginsSettling : Prop :=
  ∀ (s : State) (b : BayId) (due : Nat), (s.bay b).debounceAt = some due → s.rawPresence b = true →
    (s.bay b).debounced = false →
    ∃ t, exec (.presenceDebounceExpiry b) s = .next t ∧
      t.bay b = { s.bay b with
        debounceAt := none, debounced := true, state := .settling, settleAt := some (max s.now due + 200000)
        probe := .unknown
        probeAt := (s.bayConfig b).map (fun k => max s.now due + k.probeMs * 1000) } ∧
      s.otherBays t b ∧ s.notified t (.bay b) ∧ s.link.onlyNotices t.link ∧
      t = { s with now := max s.now due, bays := t.bays, link := t.link }

/-- R2, R18, R42, R44, R140: a removal. The record takes its removal values: the last outcome (REMOVED when a transaction
that had sent a frame was cut, a SETUP one among them: log 29, DEDUCED) and the counters alone are kept. No entry of the
bay stays queued. The entry the bay
pinned is refreshed, the in-flight figure of a cut ADVANCE having first moved to doubt when it was accepted and to
pending when it was not, and its pin is released. Bays and channels elsewhere do not change. -/
def Obligations.RemovalEmptiesTheBay : Prop :=
  ∀ (s : State) (b : BayId) (due : Nat), (s.bay b).debounceAt = some due → s.rawPresence b = false →
    (s.bay b).debounced = true →
    ∃ t, exec (.presenceDebounceExpiry b) s = .next t ∧
      t.bay b = { Bay.reset with
        lastOutcome :=
          if [EntryClass.setup, .meter, .service].any (fun k => (s.busEntry b k).any (fun e => e.sent)) then some .removed
          else (s.bay b).lastOutcome
        noReplyCtr := (s.bay b).noReplyCtr
        malformedCtr := (s.bay b).malformedCtr
        challengeFailCtr := (s.bay b).challengeFailCtr
        writeBacksCtr := (s.bay b).writeBacksCtr } ∧
      (∀ k, t.busEntry b k = none) ∧ (∀ g, g ≠ baySeg b → t.seg g = s.seg g) ∧
      (∀ e i, s.pinnedBy b = some e → (s.bay b).identity = some i →
        ∃ x ∈ t.hist.table, x.slot = e.slot ∧ x.pin = none ∧ x.dirty.isSome = true ∧
          x.data = refreshData
            (match s.busEntry b .meter with
             | some m =>
               if m.sent = true ∧ m.released = false then
                 (if m.split.isSome = true then (s.bay b).doubtInFlight else (s.bay b).returnInFlight)
               else s.bay b
             | none => s.bay b) i b false e.data) ∧
      s.notified t (.bay b) ∧ s.baysElsewhere t (bayChan b) ∧ s.otherChans t (bayChan b) ∧
      t = { s with
        now := max s.now due, bays := t.bays, chans := t.chans, segL := t.segL, segR := t.segR, hist := t.hist
        link := t.link }

/-- R7, R8, R9: the timers that begin a link-up. When the settle timer expires, a first link-up begins at step 1 on a
configured channel, a SET CODE is asked for and the bay waits for it; on an unconfigured channel the bay waits in PRESENT.
When the relink timer expires, a bay that holds an identity relinks in its own state, and one that holds none begins a
first link-up in LINKING. A relink timer that expires while a link-up runs only stops (log 18, DEDUCED). -/
def Obligations.TimersBeginLinkUps : Prop :=
  (∀ (s : State) (b : BayId) (due : Nat), (s.bay b).settleAt = some due →
     ∃ t, exec (.settleTimerExpiry b) s = .next t ∧
       ((s.bayConfig b).isSome = true →
         t.bay b = { s.bay b with
           settleAt := none, state := .linking, step := some .setCode, advSeq := 0, writeBackAt := none
           waitRechallenge := false, waitMark := false, ctx := { (s.bay b).ctx with owed := false } } ∧
         (t.seg (baySeg b)).setCode.isSome = true ∧
         (t.seg (baySeg b)).stepOne = (s.seg (baySeg b)).stepOne ++ [b] ∧
         (t.seg (baySeg b)).queue = (s.seg (baySeg b)).queue) ∧
       ((s.bayConfig b).isSome = false →
         t.bay b = { s.bay b with settleAt := none, state := .present } ∧ t.segL = s.segL ∧ t.segR = s.segR) ∧
       s.otherBays t b ∧ s.notified t (.bay b) ∧ s.link.onlyNotices t.link ∧
       t = { s with now := max s.now due, bays := t.bays, segL := t.segL, segR := t.segR, link := t.link }) ∧
  (∀ (s : State) (b : BayId) (due : Nat), (s.bay b).relinkAt = some due → (s.bay b).step = none →
     ∃ t, exec (.relinkTimerExpiry b) s = .next t ∧
       t.bay b = { s.bay b with
         relinkAt := none, state := if (s.bay b).identity.isSome = true then (s.bay b).state else .linking
         step := some .setCode, advSeq := 0, writeBackAt := none
         waitRechallenge := false, waitMark := false, ctx := { (s.bay b).ctx with owed := false } } ∧
       (t.seg (baySeg b)).setCode.isSome = true ∧
       (t.seg (baySeg b)).stepOne = (s.seg (baySeg b)).stepOne ++ [b] ∧
       (t.seg (baySeg b)).queue = (s.seg (baySeg b)).queue ∧
       s.otherBays t b ∧ ((s.bay b).identity = none → s.notified t (.bay b)) ∧ s.link.onlyNotices t.link ∧
       t = { s with now := max s.now due, bays := t.bays, segL := t.segL, segR := t.segR, link := t.link }) ∧
  (∀ (s : State) (b : BayId) (due : Nat), (s.bay b).relinkAt = some due → (s.bay b).step ≠ none →
     ∃ t, exec (.relinkTimerExpiry b) s = .next t ∧ t.bay b = { s.bay b with relinkAt := none } ∧ s.otherBays t b ∧
       t = { s with now := max s.now due, bays := t.bays })

/-! ## The outlet probe -/

/-- R19: the comparator reads ink above r/32 of the supply. A change of its reading on a present bay of a configured
channel restarts the filter timer, or stops it when the reading is the filtered state; nothing else changes. -/
def Obligations.ProbeReadingRestartsTheFilter : Prop :=
  ∀ (s : State) (b : BayId) (x : BitVec 16),
    ∃ t, exec (.probeReadingChange b x) s = .next t ∧
      t.pins = { s.pins with probe := s.pins.probe.set b.val x } ∧
      (∀ k, s.bayConfig b = some k →
        t.bay b = { s.bay b with
          probeAt :=
            if (s.bay b).debounced = true ∧
                ¬ (k.probeRef * 2048 < (s.probeSignal b).toNat ↔ k.probeRef * 2048 < x.toNat) then
              (if (s.bay b).probe = (if k.probeRef * 2048 < x.toNat then .inkPresent else .inkAbsent) then none
               else some (s.now + k.probeMs * 1000))
            else (s.bay b).probeAt }) ∧
      (s.bayConfig b = none → t.bay b = s.bay b) ∧
      s.otherBays t b ∧ t = { s with pins := t.pins, bays := t.bays }

/-- R19, R20: the filter settles on ink absent. A READY or ACTIVE bay, and a LOST bay that holds an identity, with no
link-up running, goes to SPENT with its probe-empty-seen flag set and its relink timer stopped; a SHORT notice is raised
when remaining exceeds 5 percent; a bay that no probe rule names only has its record updated. -/
def Obligations.InkAbsentSpendsTheBay : Prop :=
  ∀ (s : State) (b : BayId) (due : Nat) (k : Settings), (s.bay b).probeAt = some due → s.bayConfig b = some k →
    (s.probeSignal b).toNat ≤ k.probeRef * 2048 → (s.bay b).probe ≠ .inkAbsent →
    ((s.bay b).step = none →
      (s.bay b).state = .ready ∨ (s.bay b).state = .active ∨
        ((s.bay b).state = .lost ∧ (s.bay b).identity.isSome = true) →
      ∃ t, exec (.probeFilterExpiry b) s = .next t ∧
        t.bay b = { s.bay b with
          probe := .inkAbsent, probeAt := none, state := .spent, refusal := none, relinkAt := none
          probeEmptySeen := true } ∧
        s.notified t (.bay b) ∧
        ((s.bay b).nominalMl * 50000 < (s.bay b).remaining → s.notified t (.level b)) ∧
        s.baysElsewhere t (bayChan b) ∧ s.otherChans t (bayChan b) ∧ s.link.onlyNotices t.link ∧
        t = { s with now := max s.now due, bays := t.bays, chans := t.chans, link := t.link }) ∧
    ((s.bay b).state = .settling ∨ (s.bay b).state = .present ∨ (s.bay b).state = .linking ∨
        (s.bay b).state = .refused ∨ (s.bay b).step ≠ none →
      ∃ t, exec (.probeFilterExpiry b) s = .next t ∧
        t.bay b = { s.bay b with probe := .inkAbsent, probeAt := none } ∧ s.otherBays t b ∧
        s.link.onlyNotices t.link ∧ t = { s with now := max s.now due, bays := t.bays, link := t.link })

/-- R21, R119, R125: the filter settles on ink present at a SPENT bay whose entry has probe-empty seen. 16 points are
scored on bay and entry, both flags clear, and the bay leaves SPENT: for LOST when its link-lost flag is set, else for
READY, from which its channel may make it ACTIVE; or for REFUSED, exactly when the scoring raised the verdict of an
identified bay and a policy of its channel then refuses it: the refill policy REFUSE a REFILLED one, or the non-genuine
policy a REJECTED or UNVERIFIABLE one. That the bay moves first and is tested then is the model's choice (log 17,
DEDUCED). -/
def Obligations.InkReturnIsScored : Prop :=
  ∀ (s : State) (b : BayId) (due : Nat) (k : Settings) (e : Entry), (s.bay b).probeAt = some due →
    s.bayConfig b = some k → k.probeRef * 2048 < (s.probeSignal b).toNat → (s.bay b).probe ≠ .inkPresent →
    (s.bay b).state = .spent → (s.bay b).probeEmptySeen = true → s.pinnedBy b = some e →
    ∃ t, exec (.probeFilterExpiry b) s = .next t ∧ (t.bay b).probe = .inkPresent ∧
      (t.bay b).score = min 255 (e.data.score + 16) ∧ (t.bay b).probeEmptySeen = false ∧
      (∃ x ∈ t.hist.table, x.data.serial = e.data.serial ∧ x.data.score = min 255 (e.data.score + 16) ∧
        x.data.probeEmptySeen = false ∧ e.data.verdict.rank ≤ x.data.verdict.rank ∧
        (s.refillThreshold ≤ min 255 (e.data.score + 16) → x.data.verdict = .refilled) ∧
        ((t.bay b).state = .refused ↔
          (s.bay b).identity.isSome = true ∧ e.data.verdict.rank < x.data.verdict.rank ∧
            ((x.data.verdict = .refilled ∧ k.refill = .refuse) ∨
              (k.nonGenuine = .refuse ∧ ((s.bay b).auth = .rejected ∨ (s.bay b).auth = .unverifiable))))) ∧
      ((s.bay b).linkLost = true → (t.bay b).state = .lost ∨ (t.bay b).state = .refused) ∧
      ((s.bay b).linkLost = false →
        (t.bay b).state = .ready ∨ (t.bay b).state = .active ∨ (t.bay b).state = .refused) ∧
      s.notified t (.bay b) ∧ s.notified t (.verdict b) ∧ t.store = s.store ∧ t.challenge = s.challenge ∧
      t.meters = s.meters ∧ s.baysElsewhere t (bayChan b) ∧ s.otherChans t (bayChan b)

/-! ## Timers of write-back and of the valve -/

/-- R82, R83: the write-back timer expires. Where R83 allows it and something is pending, an ADVANCE is queued as the
bay's METER entry and the timer stays stopped; it stays stopped too where a METER entry is there; else it starts
again. -/
def Obligations.WriteBackTimerQueuesTheAdvance : Prop :=
  ∀ (s : State) (b : BayId) (due : Nat) (k : Settings), (s.bay b).writeBackAt = some due → s.bayConfig b = some k →
    ∃ t, exec (.writeBackTimerExpiry b) s = .next t ∧ s.otherBays t b ∧
      t = { s with now := max s.now due, bays := t.bays, segL := t.segL, segR := t.segR } ∧
      (∀ g, g ≠ baySeg b → t.seg g = s.seg g) ∧
      (let mayQueue := (s.bay b).identity.isSome = true ∧ (s.bay b).step = none ∧ (s.bay b).state ≠ .lost ∧
          (s.bay b).auth = .genuine ∧ s.busEntry b .meter = none ∧ 0 < (s.bay b).owing
       (mayQueue →
          t.bay b = { s.bay b with writeBackAt := none } ∧
          t.seg (baySeg b) = { s.seg (baySeg b) with
            queue := (s.seg (baySeg b)).queue ++ [newBusEntry b .meter .advance none (max s.now due)] }) ∧
       ((s.busEntry b .meter).isSome = true →
          t.bay b = { s.bay b with writeBackAt := none } ∧ t.seg (baySeg b) = s.seg (baySeg b)) ∧
       (¬ mayQueue → s.busEntry b .meter = none → 0 < k.quantumMl →
          t.bay b = { s.bay b with writeBackAt := some (max s.now due + k.intervalS * 1000000) } ∧
          t.seg (baySeg b) = s.seg (baySeg b)))

/-- R102, R103, R104, R106: the valve switch timer expires. The channel serves, with the CHANGING cause gone; the choice
that follows leaves it so while its active bay is ranked no lower than the partner, moves it to a partner of higher rank
in a new changeover, and starves it, latched under restart mode HOST, when neither bay has a rank. -/
def Obligations.ValveSwitchEndsTheChangeover : Prop :=
  ∀ (s : State) (c : ChanId) (due : Nat) (k : Settings) (sd : Side), (s.chan c).switchAt = some due →
    (s.chan c).state = .changing → (s.chan c).config = some k → (s.chan c).active = some sd →
    ∃ t, exec (.valveSwitchTimerExpiry c) s = .next t ∧ s.otherChans t c ∧ s.notified t (.channel c) ∧
      s.link.onlyNotices t.link ∧ t = { s with now := max s.now due, chans := t.chans, bays := t.bays, link := t.link } ∧
      (s.rank c sd ≠ .none → (s.rank c (otherSide sd)).level ≤ (s.rank c sd).level →
        t.chan c = { s.chan c with
          state := .serving, former := none, switchAt := none, everServed := true
          causes := { (s.chan c).causes with changing := false } } ∧ t.bays = s.bays ∧
        t.holdLine c = ((s.chan c).causes.unconfigured || (s.chan c).causes.starved || (s.chan c).causes.host ||
          (s.chan c).causes.latch)) ∧
      ((s.rank c sd).level < (s.rank c (otherSide sd)).level →
        t.chan c = { s.chan c with
          state := .changing, active := some (otherSide sd), former := some sd, valve := otherSide sd
          switchAt := some (max s.now due + k.switchTens * 10000), everServed := true
          causes := { (s.chan c).causes with changing := true, starved := false } } ∧
        (t.bay (sideBay c sd)).state ≠ .active ∧
        ((s.bay (sideBay c (otherSide sd))).state = .ready → (t.bay (sideBay c (otherSide sd))).state = .active) ∧
        s.baysElsewhere t c ∧ t.holdLine c = true) ∧
      (s.rank c sd = .none → s.rank c (otherSide sd) = .none →
        t.chan c = { s.chan c with
          state := .starved, active := none, former := none, switchAt := none, everServed := true
          causes := { (s.chan c).causes with
            changing := false, starved := true
            latch := (s.chan c).causes.latch || k.restartMode == .host } } ∧ t.bays = s.bays ∧ t.holdLine c = true)

/-! ## The bay bus -/

/-- R25, R26, R27: with no exchange in flight an eligible SET CODE entry is taken first. The code moves to its next value,
255 being followed by 1, and the frame carries it with the segment's sequence counter, to slot 15. -/
def Obligations.ArbiterTakesSetCodeFirst : Prop :=
  ∀ (s : State) (g : Segment) (e : SetCodeEntry), (s.seg g).exchange = none → (s.seg g).setCode = some e →
    s.hist.pf = .normal ∨ e.fromPoll = true → s.challenge.block ≠ .exhausted →
    ∃ t, exec (.arbiterTake g) s = .next t ∧
      (let code : Byte := if (s.seg g).code = 255 then 1 else (s.seg g).code + 1
       ∃ x, t.seg g = { s.seg g with
          code := code, frameSeq := (s.seg g).frameSeq + 1, setCode := none, stepOne := [], exchange := some x } ∧
        x.what = .setCode (s.seg g).stepOne ∧ x.slot = 15 ∧ x.window = none ∧
        x.bytes = [code, 0xF0, (s.seg g).frameSeq, crc8 [code, 0xF0, (s.seg g).frameSeq]]) ∧
      (∀ h, h ≠ g → t.seg h = s.seg h) ∧ t.bays = s.bays ∧ t.chans = s.chans ∧ t.meters = s.meters ∧
      t.challenge = s.challenge ∧ t.store = s.store ∧ t.hist.table = s.hist.table

/-- R36, R37: with no SET CODE entry the arbiter takes an eligible entry. First one in POLL_DUE, for which it sends a
POLL; else an aged one; else by class, SETUP before METER before SERVICE. Among entries one test finds, it takes the
one that stands first in the queue, which holds them in the order they were queued. -/
def Obligations.ArbiterTakesTheFirstInOrder : Prop :=
  ∀ (s : State) (g : Segment) (e : BusEntry) (before after : List BusEntry), (s.seg g).exchange = none →
    (s.seg g).setCode = none → (s.seg g).queue = before ++ e :: after → baySeg e.bay = g →
    (∀ x ∈ before, x.isFor e.bay e.cls = false) → 0 < s.ageLimit → s.eligible (s.seg g) e = true →
    ((e.state = .pollDue ∧ ∀ x ∈ before, x.state ≠ .pollDue) ∨
      (e.state = .waiting ∧ (∀ x ∈ before ++ after, x.state ≠ .pollDue) ∧ s.now ≥ e.enqueued + s.ageLimit * 1000 ∧
        ∀ x ∈ before, s.eligible (s.seg g) x = true → s.now < x.enqueued + s.ageLimit * 1000) ∨
      (e.state = .waiting ∧ (∀ x ∈ before ++ after, x.state ≠ .pollDue) ∧
        (∀ x ∈ (s.seg g).queue, s.eligible (s.seg g) x = true → s.now < x.enqueued + s.ageLimit * 1000) ∧
        (∀ x ∈ before, s.eligible (s.seg g) x = true →
          (e.cls = .setup → x.cls ≠ .setup) ∧ (e.cls = .meter → x.cls = .service) ∧ e.cls ≠ .service) ∧
        ∀ x ∈ after, s.eligible (s.seg g) x = true →
          (e.cls = .meter → x.cls ≠ .setup) ∧ (e.cls = .service → x.cls = .service))) →
    ∃ t x, exec (.arbiterTake g) s = .next t ∧ (t.seg g).exchange = some x ∧
      x.what = .entry e.bay e.cls (e.state == .pollDue) ∧ x.code = (s.seg g).code ∧ x.slot = baySlot e.bay ∧
      x.seq = (s.seg g).frameSeq ∧ (t.seg g).frameSeq = (s.seg g).frameSeq + 1 ∧ x.window = none ∧
      x.bytes.take 3 = [(s.seg g).code, u8 (baySlot e.bay * 16 + (if e.state = .pollDue then 7 else e.op.code)),
        (s.seg g).frameSeq]

/-- R32, R84: the first take of a METER entry draws the advance: the lesser of pending and 2^32 - 1 moves to in-flight
under the next sequence number, both go into the frame least significant byte first, and they stay in the entry for its
later attempts, which change no figure. -/
def Obligations.AdvanceIsDrawnAtItsFirstTake : Prop :=
  ∀ (s : State) (g : Segment) (e : BusEntry) (b : BayId), (s.seg g).exchange = none → (s.seg g).setCode = none →
    s.chooseEntry (s.seg g) = some e → e.bay = b → baySeg b = g → s.busEntry b .meter = some e → e.cls = .meter →
    e.op = .advance → e.state = .waiting → s.challenge.block ≠ .exhausted →
    (let frame := fun (delta : Nat) (seq : Word32) =>
       let body := (s.seg g).code :: u8 (baySlot b * 16 + 4) :: (s.seg g).frameSeq ::
         (leBytes 4 delta ++ leBytes 4 seq.toNat)
       body ++ [crc8 body]
     (e.drawn = none →
       ∃ t x, exec (.arbiterTake g) s = .next t ∧
         t.bay b = { s.bay b with
           owing := (s.bay b).owing - min (s.bay b).owing (2 ^ 32 - 1)
           inFlight := min (s.bay b).owing (2 ^ 32 - 1), advSeq := (s.bay b).advSeq + 1 } ∧
         ((s.bay b).inFlight = 0 → (t.bay b).consumed = (s.bay b).consumed) ∧ s.otherBays t b ∧
         (t.seg g).exchange = some x ∧
         x.bytes = frame (min (s.bay b).owing (2 ^ 32 - 1)) ((s.bay b).advSeq + 1) ∧
         (∃ m, t.busEntry b .meter = some m ∧ m.state = .onBus ∧ m.sent = true ∧
           m.drawn = some ⟨min (s.bay b).owing (2 ^ 32 - 1), (s.bay b).advSeq + 1,
             (s.bay b).identity.map Identity.serial⟩)) ∧
     (∀ w, e.drawn = some w →
       ∃ t x, exec (.arbiterTake g) s = .next t ∧ t.bays = s.bays ∧ (t.seg g).exchange = some x ∧
         x.bytes = frame w.delta w.seq ∧ ∃ m, t.busEntry b .meter = some m ∧ m.state = .onBus ∧ m.drawn = some w))

/-- R31, R54, R56, R57: every attempt of a CHALLENGE draws the next value of the counter into its own frame. At the block's
end the next reservation is asked for at once, or, at 2^48, the counter is EXHAUSTED. -/
def Obligations.ChallengeDrawsItsNonce : Prop :=
  ∀ (s : State) (g : Segment) (e : BusEntry), (s.seg g).exchange = none → (s.seg g).setCode = none →
    s.chooseEntry (s.seg g) = some e → baySeg e.bay = g → e.op = .challenge → e.state = .waiting →
    ∃ t x, exec (.arbiterTake g) s = .next t ∧ (t.seg g).exchange = some x ∧
      x.nonce = BitVec.ofNat 48 s.challenge.next ∧
      (let body := (s.seg g).code :: u8 (baySlot e.bay * 16 + 6) :: (s.seg g).frameSeq ::
         leBytes 6 (BitVec.ofNat 48 s.challenge.next).toNat
       x.bytes = body ++ [crc8 body]) ∧
      t.challenge.next = s.challenge.next + 1 ∧ t.challenge.blockEnd = s.challenge.blockEnd ∧
      (s.challenge.next + 1 ≠ s.challenge.blockEnd →
        t.challenge.block = .reserved ∧ t.hist.keySaves = s.hist.keySaves ∧ t.bays = s.bays) ∧
      (s.challenge.next + 1 = s.challenge.blockEnd → s.challenge.blockEnd ≠ 2 ^ 48 →
        t.challenge.block = .reserving ∧ t.bays = s.bays ∧
        t.hist.keySaves = s.hist.keySaves ++ [.reserve (s.challenge.blockEnd + 4096)]) ∧
      (s.challenge.next + 1 = s.challenge.blockEnd → s.challenge.blockEnd = 2 ^ 48 →
        t.challenge.block = .exhausted ∧ t.hist.keySaves = s.hist.keySaves)

/-- R9, R26, R28: the last byte of a frame. A bay's exchange opens its reply window; a SET CODE exchange ends there,
completes link-up step 1 of the bays that asked before it began, each of which queues its IDENT where its SETUP entry is
free, marks every open failure run of the segment as re-coded, and ends every wait for a re-code. -/
def Obligations.FrameEndOpensTheWindow : Prop :=
  ∀ (s : State) (g : Segment) (x : Exchange), (s.seg g).exchange = some x → x.window = none →
    (∀ b k poll, x.what = .entry b k poll →
      ∃ t, exec (.busFrameEnd g) s = .next t ∧
        t.seg g = { s.seg g with exchange := some { x with window := some (max s.now x.endsAt) } } ∧
        (∀ h, h ≠ g → t.seg h = s.seg h) ∧ t = { s with now := max s.now x.endsAt, segL := t.segL, segR := t.segR }) ∧
    (∀ serves, x.what = .setCode serves → (∀ b ∈ serves, baySeg b = g) →
      ∃ t, exec (.busFrameEnd g) s = .next t ∧ (t.seg g).exchange = none ∧ (∀ h, h ≠ g → t.seg h = s.seg h) ∧
        (∀ b, t.bay b = { s.bay b with
          step := if b ∈ serves ∧ (s.bay b).step = some .setCode then some .ident else (s.bay b).step }) ∧
        (∀ e ∈ (s.seg g).queue, ∃ y ∈ (t.seg g).queue, y.awaitRecode = none ∧
          y = { e with
            recoded := e.recoded || e.attempts != 0
            awaitRecode := none
            state :=
              match e.awaitRecode with
              | some true => .pollDue
              | some false => .waiting
              | none => e.state }) ∧
        (∀ b ∈ serves, (s.bay b).step = some .setCode → s.busEntry b .setup = none →
          t.busEntry b .setup = some (newBusEntry b .setup .ident (some .ident) (max s.now x.endsAt))) ∧
        t = { s with now := max s.now x.endsAt, bays := t.bays, segL := t.segL, segR := t.segR })

/-- R28: bytes that carry another code, slot or sequence byte than the exchange's are stale and change nothing. That bytes
on a segment with no exchange, or whose reply window is not open, change nothing either is the model's choice (log 1,
DESIGN CHOICE). -/
def Obligations.StaleReplyCountsForNothing : Prop :=
  ∀ (s : State) (g : Segment) (c h q : Byte) (rest : List Byte),
    ((s.seg g).exchange = none ∨ (∃ x, (s.seg g).exchange = some x ∧ x.window = none) ∨
      (∃ x, (s.seg g).exchange = some x ∧ (c ≠ x.code ∨ h.toNat / 16 ≠ x.slot ∨ q ≠ x.seq))) →
    exec (.busReplyTaken g (c :: h :: q :: rest)) s = .next s ∧
    exec (.busReplyGapTimeout g (c :: h :: q :: rest)) s = .next s

/-- R29, R38: a well-formed ACCEPTED of a write frame begins its split write: the first poll falls due after the write busy
time of the bay's identity, the deadline is 20 ms later, and the failure run closes. The exchange ends, and no figure of
the bay changes. -/
def Obligations.AcceptedBeginsTheSplitWrite : Prop :=
  ∀ (s : State) (b : BayId) (k : EntryClass) (x : Exchange) (w : Nat) (e : BusEntry) (i : Identity),
    (s.seg (baySeg b)).exchange = some x → x.window = some w → x.what = .entry b k false → x.abandoned = false →
    x.slot < 16 → s.busEntry b k = some e → (s.bay b).identity = some i → s.challenge.block ≠ .exhausted →
    e.op = .advance ∨ e.op = .mark ∨ (∃ n d, e.op = .writeBlock n d) →
    ∃ t, (let body := [x.code, u8 (x.slot * 16 + 8), x.seq]
          exec (.busReplyTaken (baySeg b) (body ++ [crc8 body])) s = .next t) ∧
      (let at' := max s.now (w + 128)
       t.now = at' ∧ (t.seg (baySeg b)).exchange = none ∧
       t.busEntry b k = some { e with
         state := .waiting, attempts := 0, recoded := false
         split := some ⟨at', some (at' + i.writeBusy.toNat * 1000), at' + i.writeBusy.toNat * 1000 + 20000, false⟩ }) ∧
      t.bay b = { s.bay b with
        advanceSinceIdent :=
          (s.bay b).advanceSinceIdent || (decide (e.op = .advance) && (s.bay b).observed.isSome) } ∧
      s.otherBays t b ∧ t.chans = s.chans ∧ t.store = s.store ∧ t.challenge = s.challenge ∧
      t.hist.table = s.hist.table ∧ (∀ g, g ≠ baySeg b → t.seg g = s.seg g)

/-- R29, R30, R42, R164: a well-formed DONE to a READ BLOCK ends the transaction OK, and the CART READ that waits for it is
answered with the bay, the block number and the 8 bytes. Of the bay only the last bus outcome changes. -/
def Obligations.ReadBlockAnswersTheCartRead : Prop :=
  ∀ (s : State) (b : BayId) (n : Nat) (x : Exchange) (w : Nat) (e : BusEntry) (q : Request) (rest : List Request)
    (data : List Byte),
    (s.seg (baySeg b)).exchange = some x → x.window = some w → x.what = .entry b .service false →
    x.abandoned = false → x.slot < 16 → s.busEntry b .service = some e → e.bay = b → e.cls = .service →
    e.op = .readBlock n → data.length = 8 → s.link.waiting = some (.cartRead b n) → s.link.intake = q :: rest →
    s.challenge.block ≠ .exhausted →
    ∃ t, (let body := x.code :: u8 (x.slot * 16 + 9) :: x.seq :: data
          exec (.busReplyTaken (baySeg b) (body ++ [crc8 body])) s = .next t) ∧
      s.answered t q rest .ok (u8 b.val :: u8 n :: data) ∧ t.busEntry b .service = none ∧
      (t.seg (baySeg b)).exchange = none ∧ t.bay b = { s.bay b with lastOutcome := some .ok } ∧ s.otherBays t b ∧
      t.chans = s.chans ∧ t.store = s.store ∧ t.hist.table = s.hist.table

/-- R42, R85, R88: a POLL answered DONE ends the ADVANCE of a bay with no link-up running. Whatever the counter C and the tag
it carries, committed becomes C, doubt and in-flight become 0, and pending grows by nothing when C is at least E + D, by D
when C is at least E and below E + D, and by D + (E - C) when C is below E, where E is committed plus the delta and D the
doubt; and the bay's WRITEBACKS counter is incremented. -/
def Obligations.AdvanceDoneSettlesTheFigures : Prop :=
  ∀ (s : State) (b : BayId) (x : Exchange) (win : Nat) (e : BusEntry) (w : Drawn) (c : BitVec 40) (tag : Word64),
    (s.seg (baySeg b)).exchange = some x → x.window = some win → x.what = .entry b .meter true →
    x.abandoned = false → x.slot < 16 → s.busEntry b .meter = some e → e.bay = b → e.cls = .meter → e.op = .advance →
    e.drawn = some w → e.released = false → (s.bay b).step = none → s.challenge.block ≠ .exhausted →
    ∃ t, (let body := x.code :: u8 (x.slot * 16 + 9) :: x.seq :: (leBytes 5 c.toNat ++ leBytes 8 tag.toNat)
          exec (.busReplyTaken (baySeg b) (body ++ [crc8 body])) s = .next t) ∧
      (let v := s.bay b
       let e' := v.committed + w.delta
       (t.bay b).committed = c.toNat ∧ (t.bay b).doubt = 0 ∧ (t.bay b).inFlight = 0 ∧
       (t.bay b).owing = fit48 (v.owing +
         (if e' + v.doubt ≤ c.toNat then 0 else if e' ≤ c.toNat then v.doubt else v.doubt + (e' - c.toNat))) ∧
       (t.bay b).writeBacksCtr.value = min 255 (v.writeBacksCtr.value + 1) ∧
       (v.owing + v.doubt + (e' - c.toNat) < 2 ^ 48 → v.inFlight = w.delta →
         v.consumed ≤ (t.bay b).consumed)) ∧
      t.meters = s.meters ∧ t.store = s.store ∧ t.challenge = s.challenge

/-- R4, R10, R11, R12, R53, R58, R59: a well-formed DONE to the IDENT of link-up step 2 whose identity is in range. When
another bay pins an entry of the serial, the bay is REFUSED for DUPLICATE_SERIAL with no identity; that its whole
authentication context is cleared with it is the model's reading (logs 21 and 36, DEDUCED). Else the identity is
the reply's. With its key slot loaded the bay goes on to step 3: a CHALLENGE is queued, and, unless the LINKUP exchange
already runs, the state is CHALLENGING and the cartridge key is derived afresh; with the slot empty the state is
UNVERIFIABLE, with no key and no exchange. Another serial than the bay held first releases the held cartridge: its entry is
refreshed and unpinned, a METER entry not yet accepted is deleted (R90), the figures take their removal values, and the
bay goes to LINKING. -/
def Obligations.IdentReplyTakesTheCartridge : Prop :=
  ∀ (s : State) (b : BayId) (x : Exchange) (e : BusEntry) (i : Identity) (o : Observed),
    s.openFor b .setup false x e → e.op = .ident → (s.bay b).step = some .ident → i.inRange = true →
    s.challenge.block ≠ .exhausted →
    ∃ t, exec (.busReplyTaken (baySeg b) (x.reply 9 (identData i o))) s = .next t ∧
      t.store = s.store ∧ t.challenge = s.challenge ∧ s.baysElsewhere t (bayChan b) ∧
      (s.pinnedElsewhere b i.serial →
        (t.bay b).state = .refused ∧ (t.bay b).refusal = some .duplicateSerial ∧ (t.bay b).identity = none ∧
        (t.bay b).observed = none ∧ (t.bay b).step = none ∧ (t.bay b).ctx = ⟨none, .none, 0, false⟩ ∧
        s.notified t (.bay b)) ∧
      (¬ s.pinnedElsewhere b i.serial →
        (let exchanged := (s.bay b).state ≠ .linking ∧ ∃ held, (s.bay b).identity = some held ∧ held.serial ≠ i.serial
         (t.bay b).identity = some i ∧
         (s.store.keys[i.keyGen.toNat] = none →
           (t.bay b).auth = .unverifiable ∧ (t.bay b).ctx.key = none ∧ (t.bay b).ctx.exchange = .none) ∧
         (∀ master, s.store.keys[i.keyGen.toNat] = some master →
           (t.bay b).step = some .challenge ∧ (t.bay b).observed = some o ∧ (t.bay b).ctx.exchange = .linkup ∧
           t.busEntry b .setup = some (newBusEntry b .setup .challenge (some .challenge) t.now) ∧
           ((s.bay b).ctx.exchange ≠ .linkup ∨ exchanged →
             (t.bay b).auth = .challenging ∧ (t.bay b).ctx.key = some (cartridgeKey master i.serial) ∧
             (t.bay b).ctx.mismatches = 0) ∧
           ((s.bay b).ctx.exchange = .linkup → ¬ exchanged →
             (t.bay b).auth = (s.bay b).auth ∧ (t.bay b).ctx = (s.bay b).ctx) ∧
           (¬ exchanged → (s.bay b).state ≠ .refused →
             (t.bay b).committed = (s.bay b).committed ∧ (t.bay b).doubt = (s.bay b).doubt ∧
             (t.bay b).inFlight = (s.bay b).inFlight ∧ (t.bay b).owing = (s.bay b).owing) ∧
           ((s.bay b).state = .linking ∨ exchanged → (t.bay b).state = .linking) ∧
           (exchanged →
             (t.bay b).committed = 0 ∧ (t.bay b).doubt = 0 ∧ (t.bay b).inFlight = 0 ∧ (t.bay b).owing = 0 ∧
             (t.bay b).verdict = .clean ∧ (t.bay b).score = 0 ∧ (t.bay b).lowWarned = false ∧
             (t.bay b).countedOut = false ∧ (t.bay b).probeEmptySeen = false ∧ (t.bay b).linkLost = false ∧
             s.notified t (.bay b) ∧
             (∀ m, s.busEntry b .meter = some m →
               t.busEntry b .meter = if m.split.isSome = true then some { m with released := true } else none) ∧
             ∀ y held, s.pinnedBy b = some y → (s.bay b).identity = some held →
               ∃ z ∈ t.hist.table, z.slot = y.slot ∧ z.pin = none ∧ z.dirty.isSome = true ∧
                 z.data = refreshData (s.bay b) held b (s.meterAccepted b) y.data))))

/-- R12, R35, R58, R59, R60, R61, R64, R65, R67: a well-formed DONE to a CHALLENGE, on a bay for which no re-challenge waits
(R64 lets none wait while an exchange runs) and, in a link-up, no MARK (its start drops it, R35). In link-up step 3 a
response after an ADVANCE was accepted since the IDENT is indeterminate, and the link-up goes back to step 2; a match
against the key, the nonce and the observed counter makes the bay GENUINE; a first mismatch queues a second CHALLENGE and
a second one makes the bay REJECTED, each counting in CHALLENGE_FAIL. In a re-challenge a response is indeterminate while doubt or in-flight is not 0,
and the re-challenge is owed; else the counter of record is the committed figure, a match leaves the bay GENUINE, and a
second mismatch makes it REJECTED, and REFUSED where the policy says so. A waiting MARK is then queued on a bay that is still
GENUINE, and waits on after a first mismatch. GENUINE, REJECTED and a re-challenge's match set the write-backs since last
challenge to 0. That the mismatch count stands after a re-challenge that ends in a match or without a result is the
model's reading (log 41, DEDUCED). -/
def Obligations.ChallengeReplyDecides : Prop :=
  ∀ (s : State) (b : BayId) (x : Exchange) (e : BusEntry) (resp : Word64),
    s.openFor b .setup false x e → e.op = .challenge → s.challenge.block ≠ .exhausted →
    (s.bay b).waitRechallenge = false →
    (∀ i, (s.bay b).identity = some i → ¬ s.pinnedElsewhere b i.serial) →
    ∃ t, exec (.busReplyTaken (baySeg b) (x.reply 9 (leBytes 8 resp.toNat))) s = .next t ∧
      t.store = s.store ∧ t.challenge = s.challenge ∧ s.baysElsewhere t (bayChan b) ∧
      (let v := s.bay b
       let fits : BitVec 40 → Prop := fun c =>
         ∃ k, v.ctx.key = some k ∧
           resp = checkFn k [BitVec.ofNat 32 (x.nonce.toNat / 2 ^ 32), BitVec.ofNat 32 x.nonce.toNat,
             BitVec.ofNat 32 (c.toNat / 2 ^ 32), BitVec.ofNat 32 c.toNat]
       let markDue := if v.waitMark = true ∧ v.auth = .genuine then some (newBusEntry b .setup .mark none t.now) else none
       (e.linkStep.isSome = true → v.step = some .challenge → v.waitMark = false →
         (v.advanceSinceIdent = true →
           t.bay b = { v with lastOutcome := some .ok, step := some .ident } ∧
           t.busEntry b .setup = some (newBusEntry b .setup .ident (some .ident) t.now)) ∧
         (∀ o, v.observed = some o → v.advanceSinceIdent = false →
           (fits o.counter →
             (t.bay b).auth = .genuine ∧ (t.bay b).ctx.exchange = .none ∧ (t.bay b).writeBacks = 0 ∧
             (t.bay b).challengeFailCtr = v.challengeFailCtr) ∧
           (¬ fits o.counter → v.ctx.mismatches = 0 →
             t.bay b = { v with
               lastOutcome := some .ok, challengeFailCtr := v.challengeFailCtr.after
               ctx := { v.ctx with mismatches := 1 } } ∧
             t.busEntry b .setup = some (newBusEntry b .setup .challenge (some .challenge) t.now)) ∧
           (¬ fits o.counter → v.ctx.mismatches ≠ 0 →
             (t.bay b).auth = .rejected ∧ (t.bay b).ctx.exchange = .none ∧ (t.bay b).writeBacks = 0 ∧
             (t.bay b).challengeFailCtr = v.challengeFailCtr.after))) ∧
       (e.linkStep = none → v.ctx.exchange = .recheck → v.step = none →
         (v.doubt ≠ 0 ∨ v.inFlight ≠ 0 →
           t.bay b = { v with
             lastOutcome := some .ok, waitMark := false, ctx := { v.ctx with exchange := .none, owed := true } } ∧
           t.busEntry b .setup = markDue) ∧
         (v.doubt = 0 → v.inFlight = 0 →
           (fits (BitVec.ofNat 40 v.committed) →
             t.bay b = { v with
               lastOutcome := some .ok, writeBacks := 0, waitMark := false, ctx := { v.ctx with exchange := .none } } ∧
             t.busEntry b .setup = markDue) ∧
           (¬ fits (BitVec.ofNat 40 v.committed) → v.ctx.mismatches = 0 →
             t.bay b = { v with
               lastOutcome := some .ok, challengeFailCtr := v.challengeFailCtr.after
               ctx := { v.ctx with mismatches := 1 } } ∧
             t.busEntry b .setup = some (newBusEntry b .setup .challenge none t.now)) ∧
           (¬ fits (BitVec.ofNat 40 v.committed) → v.ctx.mismatches ≠ 0 →
             (t.bay b).auth = .rejected ∧ (t.bay b).ctx.exchange = .none ∧ (t.bay b).writeBacks = 0 ∧
             (t.bay b).challengeFailCtr = v.challengeFailCtr.after ∧ (t.bay b).waitMark = false ∧
             t.busEntry b .setup = none ∧ s.notified t (.bay b) ∧
             ∀ k, s.bayConfig b = some k → k.nonGenuine = .refuse → v.identity.isSome = true →
               v.state = .ready ∨ v.state = .active ∨ v.state = .spent ∨ v.state = .lost →
               (t.bay b).state = .refused ∧ (t.bay b).refusal = some .rejected))))

/-- R13, R14, R15, R87, R88, R136: the end of a link-up. A first link-up whose CHALLENGE matches goes on to step 4: the
cartridge's entry is found or, with a slot free, created, and pinned; its owed joins pending, and the observed counter C
settles against its confirmed figure and its in-doubt. Step 5 ends by the DONE or FAILED of its MARK's poll: a DONE sets
the entry's marked flag, and the link-up completes with no step, no observed counter and link-lost clear, REFUSED for
WRONG_COLOUR, REFUSED for the authentication state or the verdict under policy REFUSE, SPENT with ink absent, or in
service with the write-back timer started: with the exchange decided (R59), ACTIVE when the channel feeds from the bay,
else READY. -/
def Obligations.LinkUpEndPlacesTheBay : Prop :=
  (∀ (s : State) (b : BayId) (x : Exchange) (e : BusEntry) (i : Identity) (o : Observed) (k : Key),
     s.openFor b .setup false x e → e.op = .challenge → e.linkStep.isSome = true → (s.bay b).step = some .challenge →
     (s.bay b).state = .linking → (s.bay b).identity = some i → (s.bay b).observed = some o →
     (s.bay b).advanceSinceIdent = false → (s.bay b).ctx.key = some k → s.busEntry b .meter = none →
     s.pinnedBy b = none → ¬ s.pinnedElsewhere b i.serial → s.challenge.block ≠ .exhausted →
     ∃ t, exec (.busReplyTaken (baySeg b)
         (x.reply 9 (leBytes 8 (expectedResponse k x.nonce o.counter).toNat))) s = .next t ∧
       t.store = s.store ∧ t.challenge = s.challenge ∧ s.baysElsewhere t (bayChan b) ∧
       (let c := o.counter.toNat
        (∀ y, s.entryOf? i.serial = some y →
          (t.bay b).committed = c ∧ (t.bay b).doubt = 0 ∧
          (t.bay b).owing = fit48 (fit48 ((s.bay b).owing + y.data.owed) +
            (if y.data.confirmed + y.data.inDoubt ≤ c then 0
             else if y.data.confirmed ≤ c then y.data.inDoubt
             else y.data.inDoubt + (y.data.confirmed - c))) ∧
          ∃ z ∈ t.hist.table, z.data.serial = i.serial ∧ z.pin = some b ∧ z.data.confirmed = c ∧ z.data.inDoubt = 0 ∧
            y.data.verdict.rank ≤ z.data.verdict.rank) ∧
        (s.entryOf? i.serial = none → s.freeSlot.isSome = true →
          (t.bay b).committed = c ∧ (t.bay b).doubt = 0 ∧ (t.bay b).owing = fit48 (s.bay b).owing ∧
          ∃ z ∈ t.hist.table, z.data.serial = i.serial ∧ z.pin = some b ∧ z.data.confirmed = c ∧
            z.data.inDoubt = 0))) ∧
  (∀ (s : State) (b : BayId) (x : Exchange) (e : BusEntry) (i : Identity) (k : Settings) (kind : Nat),
     s.openFor b .setup true x e → e.op = .mark → e.linkStep.isSome = true → (s.bay b).step = some .mark →
     kind = 9 ∨ kind = 12 → (s.bay b).identity = some i → s.bayConfig b = some k → s.challenge.block ≠ .exhausted →
     ∃ t, exec (.busReplyTaken (baySeg b) (x.reply kind [])) s = .next t ∧
       t.store = s.store ∧ t.challenge = s.challenge ∧ s.baysElsewhere t (bayChan b) ∧
       (t.bay b).step = none ∧ (t.bay b).observed = none ∧ (t.bay b).linkLost = false ∧ s.notified t (.bay b) ∧
       (∀ y, s.pinnedBy b = some y → ∃ z ∈ t.hist.table, z.slot = y.slot ∧ z.data.serial = y.data.serial ∧
         z.data.marked = (y.data.marked || kind == 9)) ∧
       (let v := s.bay b
        if i.colour ≠ k.colour then (t.bay b).state = .refused ∧ (t.bay b).refusal = some .wrongColour
        else if v.auth = .rejected ∧ k.nonGenuine = .refuse then
          (t.bay b).state = .refused ∧ (t.bay b).refusal = some .rejected
        else if v.auth = .unverifiable ∧ k.nonGenuine = .refuse then
          (t.bay b).state = .refused ∧ (t.bay b).refusal = some .unverifiable
        else if v.verdict = .refilled ∧ k.refill = .refuse then
          (t.bay b).state = .refused ∧ (t.bay b).refusal = some .refilled
        else if v.probe = .inkAbsent then
          (t.bay b).state = .spent ∧ (t.bay b).probeEmptySeen = true
        else
          (t.bay b).writeBackAt = some (t.now + k.intervalS * 1000000) ∧ (t.bay b).relinkAt = none ∧
          (v.probe = .inkPresent → v.probeEmptySeen = true →
            (t.bay b).probeEmptySeen = false ∧
            ∀ y, s.pinnedBy b = some y → (t.bay b).score = min 255 (y.data.score + 16)) ∧
          (¬ (v.probe = .inkPresent ∧ v.probeEmptySeen = true) → v.auth ≠ .none → v.auth ≠ .challenging →
            ((t.bay b).state = .ready ∨ (t.bay b).state = .active) ∧
            ((t.bay b).state = .active ↔ (t.chan (bayChan b)).active = some (baySide b)))))

/-- R28, R29, R40, R41: failed attempts. A reply that stops short of four bytes is complete as it stands, and malformed: the
attempt count and the bay's MALFORMED counter rise by 1 and, before the third failure, the entry is made ready for another
attempt. A reply window that expires is a failed attempt too: the bay's NO_REPLY counter rises by 1; the first two make
the entry ready again; at the third of a run that is not re-coded the entry waits for a SET CODE, which is asked for. -/
def Obligations.FailedAttemptsCount : Prop :=
  (∀ (s : State) (b : BayId) (k : EntryClass) (poll : Bool) (x : Exchange) (w : Nat) (e : BusEntry) (kind : Byte),
     (s.seg (baySeg b)).exchange = some x → x.window = some w → x.what = .entry b k poll → x.abandoned = false →
     x.slot < 16 → kind.toNat < 16 → s.busEntry b k = some e → e.bay = b → e.cls = k → e.attempts < 2 →
     e.pastDeadline = false → s.challenge.block ≠ .exhausted →
     ∃ t, exec (.busReplyGapTimeout (baySeg b) [x.code, u8 (x.slot * 16) + kind, x.seq]) s = .next t ∧
       (t.seg (baySeg b)).exchange = none ∧
       t.busEntry b k = some { e with
         attempts := e.attempts + 1, state := if poll = true then .pollDue else .waiting } ∧
       t.bay b = { s.bay b with
         malformedCtr := ⟨min 255 ((s.bay b).malformedCtr.value + 1),
           (s.bay b).malformedCtr.half || (s.bay b).malformedCtr.value == 127⟩ } ∧
       s.otherBays t b ∧ t.chans = s.chans ∧ t.store = s.store ∧ t.hist.table = s.hist.table) ∧
  (∀ (s : State) (b : BayId) (k : EntryClass) (poll : Bool) (x : Exchange) (w : Nat) (e : BusEntry),
     (s.seg (baySeg b)).exchange = some x → x.window = some w → x.what = .entry b k poll → x.abandoned = false →
     s.busEntry b k = some e → e.bay = b → e.cls = k → e.attempts < 2 ∨ (e.attempts = 2 ∧ e.recoded = false) →
     e.pastDeadline = false → s.challenge.block ≠ .exhausted →
     ∃ t, exec (.busReplyWindowTimeout (baySeg b)) s = .next t ∧ t.now = max s.now (w + 2000) ∧
       (t.seg (baySeg b)).exchange = none ∧
       (e.attempts < 2 →
         t.busEntry b k = some { e with
           attempts := e.attempts + 1, state := if poll = true then .pollDue else .waiting } ∧
         (t.seg (baySeg b)).setCode = (s.seg (baySeg b)).setCode) ∧
       (e.attempts = 2 →
         t.busEntry b k = some { e with attempts := 3, state := .waiting, awaitRecode := some poll } ∧
         (t.seg (baySeg b)).setCode.isSome = true) ∧
       t.bay b = { s.bay b with
         noReplyCtr := ⟨min 255 ((s.bay b).noReplyCtr.value + 1),
           (s.bay b).noReplyCtr.half || (s.bay b).noReplyCtr.value == 127⟩ } ∧
       s.otherBays t b ∧ t.chans = s.chans ∧ t.store = s.store ∧ t.hist.table = s.hist.table)

/-- R16, R41, R43, R164: the window that exhausts the run of a READ BLOCK on a READY or ACTIVE bay. The CART READ is answered
NO_REPLY and the bay goes to LOST with link-lost set, its write-back timer stopped and its relink timer at 5 s. -/
def Obligations.ExhaustedRunLosesTheBay : Prop :=
  ∀ (s : State) (b : BayId) (n : Nat) (x : Exchange) (w : Nat) (e : BusEntry) (q : Request) (rest : List Request),
    (s.seg (baySeg b)).exchange = some x → x.window = some w → x.what = .entry b .service false →
    x.abandoned = false → s.busEntry b .service = some e → e.bay = b → e.cls = .service → e.op = .readBlock n →
    3 ≤ e.attempts ∨ (e.attempts = 2 ∧ e.recoded = true) → s.link.waiting = some (.cartRead b n) →
    s.link.intake = q :: rest → (s.bay b).state = .ready ∨ (s.bay b).state = .active → (s.bay b).step = none →
    s.challenge.block ≠ .exhausted →
    ∃ t, exec (.busReplyWindowTimeout (baySeg b)) s = .next t ∧ s.answered t q rest .noReply [] ∧
      t.busEntry b .service = none ∧ (t.bay b).state = .lost ∧ (t.bay b).linkLost = true ∧
      (t.bay b).writeBackAt = none ∧ (t.bay b).relinkAt = some (max s.now (w + 2000) + 5000000) ∧
      (t.bay b).lastOutcome = some .noReply ∧ s.notified t (.bay b) ∧ (t.bay b).committed = (s.bay b).committed ∧
      (t.bay b).doubt = (s.bay b).doubt ∧ t.store = s.store ∧ t.hist.table = s.hist.table

/-- R38, R39: the poll of a split write falls due and its entry goes to POLL_DUE; the deadline waits for a poll in flight,
and else ends the write BUSY_TIMEOUT, which answers the CART WRITE of a first block with no block written. -/
def Obligations.SplitWriteTimersAct : Prop :=
  ∀ (s : State) (b : BayId) (e : BusEntry) (w : SplitWrite), s.splitEntry b = some e → e.bay = b → e.split = some w →
    (∀ at', w.pollAt = some at' →
      ∃ t, exec (.pollDue b) s = .next t ∧
        t.seg (baySeg b) = { s.seg (baySeg b) with
          queue := (s.seg (baySeg b)).queue.map (fun y =>
            if y.bay = b ∧ y.cls = e.cls then
              { y with state := .pollDue, split := y.split.map (fun z => { z with pollAt := none }) }
            else y) } ∧
        t = { s with now := max s.now at', segL := t.segL, segR := t.segR } ∧
        (∀ g, g ≠ baySeg b → t.seg g = s.seg g)) ∧
    (w.deadlinePassed = false → e.state = .onBus →
      ∃ t, exec (.splitWriteDeadline b) s = .next t ∧
        t.seg (baySeg b) = { s.seg (baySeg b) with
          queue := (s.seg (baySeg b)).queue.map (fun y =>
            if y.bay = b ∧ y.cls = e.cls then
              { y with split := y.split.map (fun z => { z with deadlinePassed := true }) }
            else y) } ∧
        t = { s with now := max s.now w.deadline, segL := t.segL, segR := t.segR }) ∧
    (∀ q rest more n d, w.deadlinePassed = false → e.state ≠ .onBus → e.cls = .service → e.op = .writeBlock n d →
      s.link.waiting = some (.cartWrite b 0 more) → s.link.intake = q :: rest →
      ∃ t, exec (.splitWriteDeadline b) s = .next t ∧ s.answered t q rest .noReply [u8 b.val, 0, 5] ∧
        t.busEntry b .service = none ∧ t.bay b = { s.bay b with lastOutcome := some .busyTimeout } ∧
        s.otherBays t b ∧ t.chans = s.chans ∧ t.store = s.store ∧ t.hist.table = s.hist.table)

/-! ## The Metering Unit -/

/-- R73, R74, R75: an entry of a channel with no drop model is counted as ignored; one that meets no baseline only sets it;
a restart, one of whose deltas is 2^31 or more, moves the baseline, counts in RESTARTS and raises a METER notice. None of
them debits anything or moves a remainder. An entry with no delta so great moves the baseline too, counts nothing in
RESTARTS, and its drops are metered (R76 to R79, which MeteredDropsAreConserved states). -/
def Obligations.DropEntryMovesTheBaseline : Prop :=
  ∀ (s : State) (e : DropEntry) (es : List DropEntry), s.meterHand = e :: es →
    ((s.meter e.chan).model = none →
      ∃ t, exec .takeDropEntry s = .next t ∧ t.meters = s.meters ∧
        t.link.ignoredEntries.value = min 65535 (s.link.ignoredEntries.value + 1) ∧ t.bays = s.bays ∧
        t.chans = s.chans ∧
        t = { s with meterHand := t.meterHand, meterQueue := t.meterQueue, link := t.link } ∧
        (es ≠ [] → t.meterHand = es ∧ t.meterQueue = s.meterQueue)) ∧
    (∀ m, (s.meter e.chan).model = some m → (s.meter e.chan).base = none →
      ∃ t, exec .takeDropEntry s = .next t ∧ t.meter e.chan = { s.meter e.chan with base := some e.totals } ∧
        (∀ c, c ≠ e.chan → t.meter c = s.meter c) ∧ s.link.onlyNotices t.link ∧
        t = { s with meterHand := t.meterHand, meterQueue := t.meterQueue, meters := t.meters, link := t.link }) ∧
    (∀ m base, (s.meter e.chan).model = some m → (s.meter e.chan).base = some base →
      (2 ^ 31 ≤ (e.totals.t0 - base.t0).toNat ∨ 2 ^ 31 ≤ (e.totals.t1 - base.t1).toNat ∨
        2 ^ 31 ≤ (e.totals.t2 - base.t2).toNat) →
      ∃ t, exec .takeDropEntry s = .next t ∧
        t.meter e.chan = { s.meter e.chan with
          base := some e.totals
          restarts := ⟨min 255 ((s.meter e.chan).restarts.value + 1),
            (s.meter e.chan).restarts.half || (s.meter e.chan).restarts.value == 127⟩ } ∧
        (∀ c, c ≠ e.chan → t.meter c = s.meter c) ∧ s.notified t (.meter e.chan) ∧ s.link.onlyNotices t.link ∧
        t = { s with meterHand := t.meterHand, meterQueue := t.meterQueue, meters := t.meters, link := t.link }) ∧
    (∀ m base, (s.meter e.chan).model = some m → (s.meter e.chan).base = some base →
      (e.totals.t0 - base.t0).toNat < 2 ^ 31 → (e.totals.t1 - base.t1).toNat < 2 ^ 31 →
      (e.totals.t2 - base.t2).toNat < 2 ^ 31 →
      ∃ t, exec .takeDropEntry s = .next t ∧ (t.meter e.chan).base = some e.totals ∧
        (t.meter e.chan).model = (s.meter e.chan).model ∧ (t.meter e.chan).restarts = (s.meter e.chan).restarts ∧
        (t.meter e.chan).merges = (s.meter e.chan).merges ∧ (∀ c, c ≠ e.chan → t.meter c = s.meter c) ∧
        (es ≠ [] → t.meterHand = es ∧ t.meterQueue = s.meterQueue))

/-- R76 to R81: an entry whose drops are metered. Exactly one N and one pair of remainders below 1024 and 100000 balance raw
times k; N is debited to the active bay's pending while the channel is SERVING, and else joins the unattributed volume,
which stops at 2^32 - 1. Nothing else of the metering state changes but the baseline. -/
def Obligations.MeteredDropsAreConserved : Prop :=
  ∀ (s : State) (e : DropEntry) (es : List DropEntry) (m : DropModel) (base : Totals), s.meterHand = e :: es →
    (s.meter e.chan).model = some m → (s.meter e.chan).base = some base →
    (e.totals.t0 - base.t0).toNat < 2 ^ 31 → (e.totals.t1 - base.t1).toNat < 2 ^ 31 →
    (e.totals.t2 - base.t2).toNat < 2 ^ 31 →
    ∃ (t : State) (n rt rv : Nat), exec .takeDropEntry s = .next t ∧ rt < 1024 ∧ rv < 100000 ∧
      (let raw := (e.totals.t0 - base.t0).toNat * m.v0.toNat + (e.totals.t1 - base.t1).toNat * m.v1.toNat +
         (e.totals.t2 - base.t2).toNat * m.v2.toNat
       let θ : Int := max 5 (min 70 (e.temp.toNat : Int))
       let k := (max 768 (min 1280 (1024 + m.slope * (θ - 25)))).toNat
       raw * k + 1024 * (s.meter e.chan).rv + (s.meter e.chan).rt = 1024 * (100000 * n + rv) + rt) ∧
      (∀ c, c ≠ e.chan → t.meter c = s.meter c) ∧ t.store = s.store ∧ t.challenge = s.challenge ∧
      (∀ sd, (s.chan e.chan).state = .serving → (s.chan e.chan).active = some sd →
        ((s.bay (sideBay e.chan sd)).state = .refused →
          (s.bay (sideBay e.chan sd)).refusal = some .wrongColour ∨
          (s.bay (sideBay e.chan sd)).refusal = some .duplicateSerial ∨
          ∃ k, (s.chan e.chan).config = some k ∧ refusalDue k (s.bay (sideBay e.chan sd)) ≠ none) →
        t.meter e.chan = { s.meter e.chan with base := some e.totals, rt := rt, rv := rv } ∧
        (0 < n → (t.bay (sideBay e.chan sd)).owing = fit48 ((s.bay (sideBay e.chan sd)).owing + n)) ∧
        (n = 0 → t.bays = s.bays) ∧
        (t.bay (sideBay e.chan sd)).committed = (s.bay (sideBay e.chan sd)).committed ∧
        (t.bay (sideBay e.chan sd)).doubt = (s.bay (sideBay e.chan sd)).doubt ∧
        (t.bay (sideBay e.chan sd)).inFlight = (s.bay (sideBay e.chan sd)).inFlight) ∧
      ((s.chan e.chan).state ≠ .serving →
        t.meter e.chan = { s.meter e.chan with
          base := some e.totals, rt := rt, rv := rv
          unattributed := if n = 0 then (s.meter e.chan).unattributed
            else min (2 ^ 32 - 1) ((s.meter e.chan).unattributed + n) } ∧
        t.bays = s.bays ∧ t.chans = s.chans ∧
        ((s.meter e.chan).unattributed = 0 → n ≠ 0 → s.notified t (.meter e.chan)))

/-! ## The host link's receive side -/

/-- R150, R151, R152: a frame whose CRC does not match, a frame with more than 240 payload bytes, and a frame that a
framing error or a gap abandons are counted in BAD_FRAMES, with no other effect; the framer hunts afterwards. A framing
error or a gap outside a frame counts nothing. -/
def Obligations.BadFramesAreCounted : Prop :=
  ∀ s : State, s.phase ≠ .inReset →
    (∀ c : Instr,
      (∃ f, c = .frameReceived f ∧
        (240 < f.payload.length ∨ f.crc ≠ crc16 (u8 f.payload.length :: f.kind :: f.tag :: f.payload))) ∨
      ((c = .linkFramingError ∨ c = .linkGapTimeout) ∧ ∃ bs at', s.link.framer = .assembling bs at') →
      ∃ t, exec c s = .next t ∧ t.link.framer = .hunting ∧
        t.link.badFrames = ⟨min 65535 (s.link.badFrames.value + 1),
          s.link.badFrames.half || s.link.badFrames.value == 32767⟩ ∧
        s.link.onlyReceived t.link ∧ t.link.replyFrames = s.link.replyFrames ∧
        t.link.droppedRefusals = s.link.droppedRefusals ∧ t.link.ignoredEntries = s.link.ignoredEntries ∧
        t = { s with now := t.now, link := t.link }) ∧
    (∀ c : Instr, c = .linkFramingError ∨ c = .linkGapTimeout → s.link.framer = .hunting → s.transmitterBusy →
      exec c s = .next s)

/-- R152, R153: a frame with a right CRC. A request whose payload length its kind admits joins an intake of fewer than 4;
with 4 it is answered FULL. Another length is answered BAD_LENGTH and another kind UNKNOWN_KIND. Such an answer needs a
free place of the reply buffer; with none it is dropped and counted in DROPPED_REFUSALS. -/
def Obligations.RequestJoinsTheIntakeOrIsRefused : Prop :=
  ∀ (s : State) (f : HostFrame), s.phase ≠ .inReset → f.payload.length ≤ 240 →
    f.crc = crc16 (u8 f.payload.length :: f.kind :: f.tag :: f.payload) →
    (∀ r : Req, f.kind = r.code → r.admits f.payload.length = true → s.link.intake.length < 4 →
      ∃ t, exec (.frameReceived f) s = .next t ∧ t.link.intake = s.link.intake ++ [⟨f.kind, f.tag, f.payload⟩] ∧
        t.link.replyFrames = s.link.replyFrames ∧ t.link.framer = .hunting ∧ t.link.waiting = s.link.waiting ∧
        t.link.badFrames = s.link.badFrames ∧ s.sameOutsideLink t) ∧
    (∀ x : Result,
      (x = .full ∧ ∃ r : Req, f.kind = r.code ∧ r.admits f.payload.length = true ∧ 4 ≤ s.link.intake.length) ∨
      (x = .badLength ∧ ∃ r : Req, f.kind = r.code ∧ r.admits f.payload.length = false) ∨
      (x = .unknownKind ∧ f.kind ≠ 0x20 ∧ ∀ r : Req, f.kind ≠ r.code) →
      ∃ t, exec (.frameReceived f) s = .next t ∧ t.link.intake = s.link.intake ∧ t.link.framer = .hunting ∧
        s.link.onlyReceived t.link ∧ s.sameOutsideLink t ∧ t.link.badFrames = s.link.badFrames ∧
        (s.link.placesTaken < 5 →
          t.link.replyFrames = s.link.replyFrames ++ [hostFrameBytes 0x80 f.tag [f.kind, x.code]] ∧
          t.link.droppedRefusals = s.link.droppedRefusals) ∧
        (5 ≤ s.link.placesTaken →
          t.link.replyFrames = s.link.replyFrames ∧
          t.link.droppedRefusals.value = min 65535 (s.link.droppedRefusals.value + 1)))

/-- R68, R69, R70: a drop report. Entries of channels above 11 are taken out and counted in IGNORED_ENTRIES, and of entries
that name one channel the last is kept. What is left joins a queue of fewer than 16 reports; with 16 it is merged into the
youngest, its entries replacing those of channels both name, each of which counts a merge. No entry takes effect yet. With
no report in hand and none queued it is the report in hand in the same event: the model's choice (log 6, DESIGN CHOICE).
A report left with no entry is discarded, and one that is not 1 to 12 whole entries is a bad frame. -/
def Obligations.DropReportJoinsTheQueue : Prop :=
  ∀ (s : State) (f : HostFrame), s.phase ≠ .inReset → f.kind = 0x20 → f.payload.length ≤ 240 →
    f.crc = crc16 (u8 f.payload.length :: f.kind :: f.tag :: f.payload) →
    (∀ (r : List DropEntry), r ≠ [] → readReport f.payload = some (r.map some) →
      (r.map (fun e => e.chan)).Nodup → s.meterQueue.length < 16 →
      ∃ t, exec (.frameReceived f) s = .next t ∧ t.meters = s.meters ∧
        t.meterHand ++ t.meterQueue.flatten = s.meterHand ++ s.meterQueue.flatten ++ r ∧
        (s.meterHand = [] → s.meterQueue = [] → t.meterHand = r ∧ t.meterQueue = []) ∧
        (s.meterHand ≠ [] → t.meterHand = s.meterHand ∧ t.meterQueue = s.meterQueue ++ [r]) ∧
        t.link.badFrames = s.link.badFrames ∧ t.link.replyFrames = s.link.replyFrames ∧
        t = { s with meterHand := t.meterHand, meterQueue := t.meterQueue, link := t.link }) ∧
    (∀ es, readReport f.payload = some es → s.meterHand = [] → s.meterQueue = [] →
      s.link.ignoredEntries.value ≤ 65535 →
      ∃ t, exec (.frameReceived f) s = .next t ∧ t.meterQueue = [] ∧
        (∀ c, t.meterHand.find? (fun e => e.chan == c) = (es.filterMap id).reverse.find? (fun e => e.chan == c)) ∧
        (t.meterHand.map (fun e => e.chan)).Nodup ∧ t.meterHand.Sublist (es.filterMap id) ∧
        t.link.ignoredEntries.value =
          min 65535 (s.link.ignoredEntries.value + es.countP (fun e => e.isNone)) ∧
        t.link.badFrames = s.link.badFrames ∧ t.link.replyFrames = s.link.replyFrames ∧
        t = { s with meterHand := t.meterHand, link := t.link }) ∧
    (∀ (r young : List DropEntry) (older : List (List DropEntry)), r ≠ [] →
      readReport f.payload = some (r.map some) → (r.map (fun e => e.chan)).Nodup →
      s.meterQueue = older ++ [young] → older.length = 15 →
      ∃ t merged, exec (.frameReceived f) s = .next t ∧ t.meterQueue = older ++ [merged] ∧
        (∀ c, merged.find? (fun e => e.chan == c) =
          (r.find? (fun e => e.chan == c)).or (young.find? (fun e => e.chan == c))) ∧
        (∀ c, t.meter c = { s.meter c with
          merges :=
            if (r.any (fun e => e.chan == c) && young.any (fun e => e.chan == c)) = true then (s.meter c).merges.after
            else (s.meter c).merges }) ∧
        s.link.onlyReceived t.link ∧ t.link.badFrames = s.link.badFrames ∧
        t.link.ignoredEntries = s.link.ignoredEntries ∧ t.link.replyFrames = s.link.replyFrames ∧
        t = { s with meterQueue := t.meterQueue, meters := t.meters, link := t.link }) ∧
    (f.payload.length % 14 ≠ 0 ∨ f.payload.length = 0 ∨ 168 < f.payload.length →
      ∃ t, exec (.frameReceived f) s = .next t ∧ t.meterHand = s.meterHand ∧ t.meterQueue = s.meterQueue ∧
        t.link.badFrames.value = min 65535 (s.link.badFrames.value + 1) ∧ s.sameOutsideLink t)

/-- R151: the bytes of a frame received one after another from a hunting framer have the effect of the frame arriving as a
whole. Hunting, only 0xA5 begins a frame; assembling, a length above 240 abandons it and counts it, and a byte that does
not complete the frame joins it, 0xA5 among them. -/
def Obligations.BytesSpellTheFrame : Prop :=
  ∀ (s : State) (x : Byte), s.phase ≠ .inReset → s.transmitterBusy →
    (∀ f : HostFrame, s.link.framer = .hunting → f.payload.length ≤ 240 →
      feedBytes (0xA5 :: sentBytes f) s = exec (.frameReceived f) s) ∧
    (s.link.framer = .hunting →
      exec (.receivedByte x) s =
        .next (if x = 0xA5 then { s with link := { s.link with framer := .assembling [] s.now } } else s)) ∧
    (∀ at', s.link.framer = .assembling [] at' →
      (x.toNat ≤ 240 →
        exec (.receivedByte x) s = .next { s with link := { s.link with framer := .assembling [x] s.now } }) ∧
      (240 < x.toNat →
        ∃ t, exec (.receivedByte x) s = .next t ∧ t.link.framer = .hunting ∧
          t.link.badFrames.value = min 65535 (s.link.badFrames.value + 1) ∧ s.sameOutsideLink t)) ∧
    (∀ len bs at', s.link.framer = .assembling (len :: bs) at' → len.toNat ≤ 240 → bs.length + 2 < len.toNat + 5 →
      exec (.receivedByte x) s =
        .next { s with link := { s.link with framer := .assembling (len :: bs ++ [x]) s.now } })

/-- R156, R158, R172: the last byte of a frame is sent. The oldest reply is sent next, else the oldest notice, with the next
sequence number and a backlog flag drained into its place (R158), else the transmitter is idle; the reply of a RESTART
resets the part with that cause (R168). That this reset ends in the same event, so that start-up begins in it with the
debouncers started and the straps sampled (R5, R150, R169), is the model's choice (log 10, DEDUCED). -/
def Obligations.TransmitterSendsTheNextFrame : Prop :=
  ∀ (s : State) (f : TxFrame), s.link.tx = some f →
    (∀ r rs, f.restart = false → s.link.replies = r :: rs →
      exec .linkFrameSent s = .next { s with link := { s.link with
        replies := rs, tx := some ⟨hostFrameBytes 0x80 r.tag r.payload, false, r.restart⟩ } }) ∧
    (∀ n ns, f.restart = false → s.link.replies = [] → s.link.notices = n :: ns →
      ∃ t, exec .linkFrameSent s = .next t ∧
        t.link.tx = some ⟨hostFrameBytes n.kindCode s.link.noticeSeq (s.noticePayload n), true, false⟩ ∧
        t.link.noticeSeq = s.link.noticeSeq + 1 ∧
        (s.link.backlog = [] → t.link.notices = ns ∧ t.link.backlog = []) ∧
        (∀ k ks, s.link.backlog = k :: ks →
          t.link.backlog = ks ∧ ∃ m : Notice, m.key = k.key ∧ t.link.notices = ns ++ [m]) ∧
        s.sameOutsideLink t ∧ t.link = { s.link with
          notices := t.link.notices, backlog := t.link.backlog, noticeSeq := t.link.noticeSeq, tx := t.link.tx }) ∧
    (f.restart = false → s.link.replies = [] → s.link.notices = [] →
      exec .linkFrameSent s = .next { s with link := { s.link with tx := none } }) ∧
    (f.restart = true → s.phase ≠ .inReset →
      ∃ t, exec .linkFrameSent s = .next t ∧ t.phase = .scanning ∧ t.cause = .restart ∧
        t.chans = State.reset.chans ∧ t.meters = State.reset.meters ∧ t.segL = State.reset.segL ∧
        t.segR = State.reset.segR ∧ t.link = { State.reset.link with rate := t.pins.straps } ∧
        t.pins = { s.pins with straps := t.pins.straps } ∧
        (∀ b, t.bay b = { Bay.reset with debounceAt := some (s.now + 50000) }) ∧ t.hist.table = [] ∧
        (s.hist.saving = none → t.store = s.store))

/-! ## Requests -/

/-- R113, R162, R163: the three queries answer OK at once with their records, of 33, 36 and 97 bytes, as the state stands
(PART STATUS counts the place reserved for its own reply), or BAD_ARGUMENT for a number out of range, and change nothing
else. -/
def Obligations.QueriesOnlyAnswer : Prop :=
  ∀ (s : State) (q : Request) (rest : List Request) (n : Byte) (p : List Byte),
    (s.executable .partStatus q rest →
      ∃ t, exec .partStatus s = .next t ∧
        s.onlyAnswered t q rest .ok { s with link := { s.link with reserved := true } }.statusFields) ∧
    (s.executable .channelQuery q rest → q.payload = n :: p →
      ∃ t, exec .channelQuery s = .next t ∧
        (∀ c : ChanId, n.toNat = c.val → s.onlyAnswered t q rest .ok (s.chanRecord c)) ∧
        (11 < n.toNat → s.onlyAnswered t q rest .badArgument [])) ∧
    (s.executable .bayQuery q rest → q.payload = n :: p →
      ∃ t, exec .bayQuery s = .next t ∧
        (∀ b : BayId, n.toNat = b.val → s.onlyAnswered t q rest .ok (s.bayRecord b)) ∧
        (23 < n.toNat → s.onlyAnswered t q rest .badArgument [])) ∧
    s.statusFields.length = 33 ∧ (∀ c, (s.chanRecord c).length = 36) ∧ (∀ b, (s.bayRecord b).length = 97)

/-- R147: HISTORY READ answers with the entry at a list position of the working table, with EMPTY beyond the last one, and
BAD_ARGUMENT above 63; it changes no state. -/
def Obligations.HistoryReadShowsTheEntry : Prop :=
  ∀ (s : State) (q : Request) (rest : List Request) (n : Byte) (p : List Byte), s.executable .historyRead q rest →
    q.payload = n :: p →
    ∃ t, exec .historyRead s = .next t ∧
      (63 < n.toNat → s.onlyAnswered t q rest .badArgument []) ∧
      (n.toNat ≤ 63 → s.hist.table.length ≤ n.toNat →
        s.onlyAnswered t q rest .ok (n :: 0 :: List.replicate 40 0)) ∧
      (∀ e, n.toNat ≤ 63 → s.hist.table[n.toNat]? = some e →
        s.onlyAnswered t q rest .ok
          (n :: 1 :: (beBytes 8 e.data.serial.toNat ++ [e.data.colour, u8 e.data.keyGen.toNat] ++
            beBytes 2 e.data.nominalMl.toNat ++ beBytes 5 e.data.confirmed ++ beBytes 6 e.data.owed ++
            beBytes 6 e.data.inDoubt ++
            [u8 e.data.score, e.data.verdict.code,
             flagSet [e.data.countedOutSeen, e.data.probeEmptySeen, e.data.marked, e.data.rejected],
             u8 e.data.lastBay.val] ++ beBytes 4 e.data.stamp ++
            [bayCode e.pin, yesNo e.dirty.isSome, yesNo e.saving])))

/-- R50: KEY CHECK answers at once with CF(MK, [0]) of the slot's key, EMPTY_SLOT for an empty slot and BAD_ARGUMENT above
3; it changes no state. -/
def Obligations.KeyCheckShowsTheCheckValue : Prop :=
  ∀ (s : State) (q : Request) (rest : List Request) (n : Byte) (p : List Byte), s.executable .keyCheck q rest →
    q.payload = n :: p →
    ∃ t, exec .keyCheck s = .next t ∧
      (3 < n.toNat → s.onlyAnswered t q rest .badArgument []) ∧
      (∀ slot : Fin 4, n.toNat = slot.val → s.store.keys[slot.val] = none → s.onlyAnswered t q rest .emptySlot []) ∧
      (∀ (slot : Fin 4) (k : Key), n.toNat = slot.val → s.store.keys[slot.val] = some k →
        s.onlyAnswered t q rest .ok (n :: beBytes 8 (checkFn k [0]).toNat))

/-- R110: HOLD adds HOST to the channel's hold-cause set, with a CHANNEL notice when that changes the set, and is answered
with the channel's state and the set; a channel above 11 is answered BAD_ARGUMENT. Nothing else changes. -/
def Obligations.HoldAddsTheHostCause : Prop :=
  ∀ (s : State) (q : Request) (rest : List Request) (n : Byte) (p : List Byte), s.executable .hold q rest →
    q.payload = n :: p →
    ∃ t, exec .hold s = .next t ∧
      (11 < n.toNat → s.onlyAnswered t q rest .badArgument []) ∧
      (∀ c : ChanId, n.toNat = c.val →
        t.chan c = { s.chan c with causes := { (s.chan c).causes with host := true } } ∧ t.holdLine c = true ∧
        s.otherChans t c ∧ t = { s with chans := t.chans, link := t.link } ∧
        s.answered t q rest .ok
          [(s.chan c).state.code, flagSet [(s.chan c).causes.unconfigured, (s.chan c).causes.starved,
            (s.chan c).causes.changing, true, (s.chan c).causes.latch]] ∧
        ((s.chan c).causes.host = false → s.notified t (.channel c)) ∧
        ((s.chan c).causes.host = true → t.chans = s.chans ∧ s.link.onlyAnswers t.link))

/-- R111: RELEASE removes HOST and LATCH from the channel's hold-cause set and leaves the other causes, with a CHANNEL notice
when that changes the set, and is answered with the channel's state and the set; the hold line is deasserted when the set
is then empty; a channel above 11 is answered BAD_ARGUMENT. Nothing else changes. -/
def Obligations.ReleaseRemovesHostAndLatch : Prop :=
  ∀ (s : State) (q : Request) (rest : List Request) (n : Byte) (p : List Byte), s.executable .release q rest →
    q.payload = n :: p →
    ∃ t, exec .release s = .next t ∧
      (11 < n.toNat → s.onlyAnswered t q rest .badArgument []) ∧
      (∀ c : ChanId, n.toNat = c.val →
        t.chan c = { s.chan c with causes := { (s.chan c).causes with host := false, latch := false } } ∧
        t.holdLine c =
          ((s.chan c).causes.unconfigured || (s.chan c).causes.starved || (s.chan c).causes.changing) ∧
        s.otherChans t c ∧ t = { s with chans := t.chans, link := t.link } ∧
        s.answered t q rest .ok
          [(s.chan c).state.code, flagSet [(s.chan c).causes.unconfigured, (s.chan c).causes.starved,
            (s.chan c).causes.changing, false, false]] ∧
        ((s.chan c).causes.host = true ∨ (s.chan c).causes.latch = true → s.notified t (.channel c)) ∧
        ((s.chan c).causes.host = false → (s.chan c).causes.latch = false →
          t.chans = s.chans ∧ s.link.onlyAnswers t.link))

/-- R121, R161: SET PART. With 1 to 254 points of doubt threshold, a refill threshold above it and an age limit that is not
0, the three values are applied and answered, the age limit in milliseconds and two bytes (log 26, DEDUCED), every pinned
entry's verdict stands at least where its score puts it, and
none falls; else BAD_ARGUMENT and nothing else changes. -/
def Obligations.SetPartAppliesOrRefuses : Prop :=
  ∀ (s : State) (q : Request) (rest : List Request) (d r a : Byte), s.executable .setPart q rest →
    q.payload = [d, r, a] →
    ∃ t, exec .setPart s = .next t ∧
      (1 ≤ d.toNat → d.toNat ≤ 254 → d.toNat < r.toNat → a ≠ 0 →
        t.doubtThreshold = d.toNat ∧ t.refillThreshold = r.toNat ∧ t.ageLimit = a.toNat * 10 ∧
        s.answered t q rest .ok ([d, r] ++ beBytes 2 (a.toNat * 10)) ∧
        (∀ b e, s.pinnedBy b = some e → s.serialsDistinct →
          ∃ x ∈ t.hist.table, x.data.serial = e.data.serial ∧ e.data.verdict.rank ≤ x.data.verdict.rank ∧
            (r.toNat ≤ e.data.score → x.data.verdict = .refilled) ∧
            (d.toNat ≤ e.data.score → x.data.verdict ≠ .clean)) ∧
        t.store = s.store ∧ t.meters = s.meters ∧ t.challenge = s.challenge) ∧
      (d = 0 ∨ d = 255 ∨ r.toNat ≤ d.toNat ∨ a = 0 → s.onlyAnswered t q rest .badArgument [])

/-- R96: the tests of CONFIGURE CHANNEL. A channel above 11, a policy or mode code that names no listed value and a colour
outside 1 to 63 are answered BAD_ARGUMENT, another colour than that of a configured channel with a bay that is not
EMPTY BAD_STATE; a refused request changes nothing. -/
def Obligations.ConfigureTestsItsArguments : Prop :=
  ∀ (s : State) (q : Request) (rest : List Request), s.executable .configureChannel q rest → q.payload.length = 20 →
    (let byte := fun i => (byteAt q.payload i).toNat
     (11 < byte 0 ∨ 1 < byte 14 ∨ 2 < byte 15 ∨ 1 < byte 16 ∨ byte 1 = 0 ∨ 63 < byte 1 →
        ∃ t, exec .configureChannel s = .next t ∧ s.onlyAnswered t q rest .badArgument []) ∧
     (∀ (c : ChanId) (k : Settings), byte 0 = c.val → byte 14 ≤ 1 → byte 15 ≤ 2 → byte 16 ≤ 1 →
        1 ≤ byte 1 → byte 1 ≤ 63 → (s.chan c).config = some k → k.colour.toNat ≠ byte 1 →
        (s.bay (sideBay c .a)).state ≠ .empty ∨ (s.bay (sideBay c .b)).state ≠ .empty →
        ∃ t, exec .configureChannel s = .next t ∧ s.onlyAnswered t q rest .badState []))

/-- R71, R96, R97, R98, R106: a first configuration. Every numeric field is applied at the nearer end of its range; the
channel is STARVED with its UNCONFIGURED cause gone and its valve where it was, the metering state has the new model, no
baseline and remainders of 0, the channel's PRESENT bays begin link-up, and the settings are answered as applied. -/
def Obligations.FirstConfigurationStarvesTheChannel : Prop :=
  ∀ (s : State) (q : Request) (rest : List Request) (c : ChanId), s.executable .configureChannel q rest →
    q.payload.length = 20 →
    (let byte := fun i => (byteAt q.payload i).toNat
     byte 0 = c.val → byte 14 ≤ 1 → byte 15 ≤ 2 → byte 16 ≤ 1 → 1 ≤ byte 1 → byte 1 ≤ 63 →
     (s.chan c).config = none →
     ∃ t k, exec .configureChannel s = .next t ∧
      k.colour.toNat = byte 1 ∧ k.v0.toNat = byte 2 * 256 + byte 3 ∧ k.v1.toNat = byte 4 * 256 + byte 5 ∧
      k.v2.toNat = byte 6 * 256 + byte 7 ∧ k.slope = max (-8) (min 8 (byteAt q.payload 8).toInt) ∧
      k.lowLevel = max 1 (min 50 (byte 9)) ∧ k.tolerance = min 15 (byte 10) ∧ k.quantumMl = max 1 (byte 11) ∧
      k.intervalS = max 1 (byte 12) ∧ k.reauth = byte 13 ∧ k.nonGenuine.code.toNat = byte 14 ∧
      k.refill.code.toNat = byte 15 ∧ k.restartMode.code.toNat = byte 16 ∧ k.probeRef = min 15 (byte 17) ∧
      k.probeMs = max 1 (byte 18) ∧ k.switchTens = max 1 (byte 19) ∧
      t.chan c = { s.chan c with
        state := .starved, config := some k, active := none, former := none, switchAt := none
        causes := { (s.chan c).causes with
          unconfigured := false, changing := false, starved := true
          latch := (s.chan c).causes.latch || ((s.chan c).everServed && k.restartMode == .host) } } ∧
      t.meter c = { s.meter c with model := some ⟨k.v0, k.v1, k.v2, k.slope⟩, base := none, rt := 0, rv := 0 } ∧
      (∀ b, bayChan b = c →
        t.bay b = { (if (s.bay b).state = .present then { (s.bay b).startLink with state := .linking } else s.bay b) with
          probeAt :=
            if (s.bay b).debounced = true then some (s.now + k.probeMs * 1000) else (s.bay b).probeAt }) ∧
      s.baysElsewhere t c ∧ s.otherChans t c ∧ (∀ x, x ≠ c → t.meter x = s.meter x) ∧
      s.answered t q rest .ok ([byteAt q.payload 0, 1] ++ k.block) ∧ k.block.length = 19 ∧
      t = { s with
        bays := t.bays, chans := t.chans, meters := t.meters, segL := t.segL, segR := t.segR, link := t.link })

/-- R48, R49: LOAD KEY with a slot up to 3 and LOCK KEYS ask the store for a class-1 save and hold the intake while it runs;
a locked part answers LOCKED, a slot above 3 is answered BAD_ARGUMENT first. The store itself is unchanged. -/
def Obligations.KeyRequestsWaitForTheirSave : Prop :=
  ∀ (s : State) (q : Request) (rest : List Request),
    (∀ (n : Byte) (kb : List Byte), s.executable .loadKey q rest → q.payload = n :: kb → kb.length = 16 →
      ∃ t, exec .loadKey s = .next t ∧
        (3 < n.toNat → s.onlyAnswered t q rest .badArgument []) ∧
        (n.toNat ≤ 3 → s.store.locked = true → s.onlyAnswered t q rest .locked []) ∧
        (∀ slot : Fin 4, n.toNat = slot.val → s.store.locked = false →
          t.hist = { s.hist with keySaves := s.hist.keySaves ++ [.key slot (BitVec.ofNat 128 (beNat kb))] } ∧
          t.link.waiting = some .keySave ∧ t.link.reserved = true ∧ t.link.intake = q :: rest ∧
          t.link.replyFrames = s.link.replyFrames ∧ t = { s with hist := t.hist, link := t.link })) ∧
    (s.executable .lockKeys q rest →
      ∃ t, exec .lockKeys s = .next t ∧
        (s.store.locked = true → s.onlyAnswered t q rest .locked []) ∧
        (s.store.locked = false →
          t.hist = { s.hist with keySaves := s.hist.keySaves ++ [.lock] } ∧
          t.link.waiting = some .keySave ∧ t.link.reserved = true ∧ t.link.intake = q :: rest ∧
          t.link.replyFrames = s.link.replyFrames ∧ t = { s with hist := t.hist, link := t.link }))

/-- R30, R33, R164, R165: CART READ and CART WRITE, their tests in order. One that passes queues its block as the bay's
SERVICE entry and holds the intake; a refused one changes nothing. That a CART WRITE answered NOT_PRESENT at its test
carries the bay, the count 0 and an absent outcome is read from R178 (log 26, DEDUCED). -/
def Obligations.CartRequestsQueueTheirBlock : Prop :=
  ∀ (s : State) (q : Request) (rest : List Request) (n m : Byte) (d : List Byte),
    (s.executable .cartRead q rest → q.payload = [n, m] →
      ∃ t, exec .cartRead s = .next t ∧
        (23 < n.toNat ∨ 63 < m.toNat → s.onlyAnswered t q rest .badArgument []) ∧
        (∀ b : BayId, n.toNat = b.val → m.toNat ≤ 63 →
          ((s.bay b).identity = none → s.onlyAnswered t q rest .notPresent []) ∧
          ((s.bay b).identity ≠ none →
            ((s.bay b).step ≠ none ∨ (s.bay b).state = .linking ∨ (s.bay b).state = .lost →
              s.onlyAnswered t q rest .badState []) ∧
            ((s.bay b).step = none → (s.bay b).state ≠ .linking → (s.bay b).state ≠ .lost →
              t.link.waiting = some (.cartRead b m.toNat) ∧ t.link.reserved = true ∧
              t.link.intake = q :: rest ∧ t.link.replyFrames = s.link.replyFrames ∧
              (t.seg (baySeg b)).queue =
                (s.seg (baySeg b)).queue ++ [newBusEntry b .service (.readBlock m.toNat) none s.now] ∧
              t = { s with segL := t.segL, segR := t.segR, link := t.link })))) ∧
    (s.executable .cartWrite q rest → q.payload = n :: m :: d → d.length % 8 = 0 → 8 ≤ d.length → d.length ≤ 64 →
      ∃ t, exec .cartWrite s = .next t ∧
        (23 < n.toNat → s.onlyAnswered t q rest .badArgument []) ∧
        (∀ b : BayId, n.toNat = b.val →
          (m.toNat < 48 ∨ 64 < m.toNat + d.length / 8 → s.onlyAnswered t q rest .isProtected []) ∧
          (48 ≤ m.toNat → m.toNat + d.length / 8 ≤ 64 →
            ((s.bay b).identity = none → s.onlyAnswered t q rest .notPresent [n, 0, 0xFF]) ∧
            ((s.bay b).identity ≠ none →
              ((s.bay b).step ≠ none ∨ (s.bay b).state = .linking ∨ (s.bay b).state = .lost →
                s.onlyAnswered t q rest .badState []) ∧
              ((s.bay b).step = none → (s.bay b).state ≠ .linking → (s.bay b).state ≠ .lost →
                (∃ more, t.link.waiting = some (.cartWrite b 0 more) ∧ more.length + 1 = d.length / 8) ∧
                t.link.reserved = true ∧ t.link.intake = q :: rest ∧ t.link.replyFrames = s.link.replyFrames ∧
                (t.seg (baySeg b)).queue =
                  (s.seg (baySeg b)).queue ++ [newBusEntry b .service (.writeBlock m.toNat (d.take 8)) none s.now] ∧
                t = { s with segL := t.segL, segR := t.segR, link := t.link })))))

/-- R144, R148: HISTORY FORGET. The entry of an unpinned serial leaves the working table at once, its removal save waits,
and the request holds the intake with the amounts it held; a serial no entry holds is answered NOT_PRESENT, a pinned
one BAD_STATE. LOST_OWED does not change. -/
def Obligations.ForgetTakesTheEntryOut : Prop :=
  ∀ (s : State) (q : Request) (rest : List Request), s.executable .historyForget q rest → q.payload.length = 8 →
    (let serial : Word64 := BitVec.ofNat 64 (beNat q.payload)
     ((∀ e ∈ s.hist.table, e.data.serial ≠ serial) →
        ∃ t, exec .historyForget s = .next t ∧ s.answered t q rest .notPresent [] ∧ t.store = s.store ∧
          t.hist.table = s.hist.table ∧ t.bays = s.bays ∧ t.chans = s.chans) ∧
     (∀ e, s.entryOf? serial = some e →
        (e.pin.isSome = true →
          ∃ t, exec .historyForget s = .next t ∧ s.answered t q rest .badState [] ∧ t.store = s.store ∧
            t.hist.table = s.hist.table ∧ t.bays = s.bays ∧ t.chans = s.chans) ∧
        (e.pin = none →
          ∃ t, exec .historyForget s = .next t ∧
            t.hist.table = s.hist.table.filter (fun x => x.data.serial != serial) ∧
            t.hist.removals = s.hist.removals ++ [⟨e.slot, s.hist.writeOrder⟩] ∧
            t.link.waiting = some (.forget e.slot serial e.data.owed e.data.inDoubt) ∧ t.link.reserved = true ∧
            t.link.intake = q :: rest ∧ t.link.replyFrames = s.link.replyFrames ∧ t.hist.lostOwed = s.hist.lostOwed ∧
            t.store = s.store ∧ t.bays = s.bays ∧ t.chans = s.chans ∧ t.challenge = s.challenge)))

/-- R80, R167, R178: COUNTERS READ answers with the scope, its counters as they stood and the unattributed volume, and
sets them and their half-scale flags to 0; a scope that names nothing is answered BAD_ARGUMENT. Every such reply has one
length, the places of the counters of other scopes being 0 (log 26, DEDUCED). -/
def Obligations.CountersReadClearsItsScope : Prop :=
  ∀ (s : State) (q : Request) (rest : List Request) (n : Byte) (p : List Byte), s.executable .countersRead q rest →
    q.payload = n :: p →
    ∃ t, exec .countersRead s = .next t ∧
      (∀ b : BayId, n.toNat = b.val →
        t.bay b = { s.bay b with
          noReplyCtr := ⟨0, false⟩, malformedCtr := ⟨0, false⟩, challengeFailCtr := ⟨0, false⟩
          writeBacksCtr := ⟨0, false⟩ } ∧
        s.otherBays t b ∧ t = { s with bays := t.bays, link := t.link } ∧ s.link.onlyAnswers t.link ∧
        s.answered t q rest .ok
          [n, u8 (s.bay b).noReplyCtr.value, u8 (s.bay b).malformedCtr.value, u8 (s.bay b).challengeFailCtr.value,
           u8 (s.bay b).writeBacksCtr.value, 0, 0, 0, 0, 0, 0, 0, 0, 0, 0, 0, 0]) ∧
      (∀ c : ChanId, n.toNat = 64 + c.val →
        t.meter c = { s.meter c with merges := ⟨0, false⟩, restarts := ⟨0, false⟩, unattributed := 0 } ∧
        (∀ x, x ≠ c → t.meter x = s.meter x) ∧ t = { s with meters := t.meters, link := t.link } ∧
        s.link.onlyAnswers t.link ∧
        s.answered t q rest .ok
          ([n, 0, 0, 0, 0, u8 (s.meter c).merges.value, u8 (s.meter c).restarts.value, 0, 0, 0, 0, 0, 0] ++
            beBytes 4 (s.meter c).unattributed)) ∧
      (n = 0x80 →
        t.link.badFrames = ⟨0, false⟩ ∧ t.link.droppedRefusals = ⟨0, false⟩ ∧ t.link.ignoredEntries = ⟨0, false⟩ ∧
        s.sameOutsideLink t ∧
        s.answered t q rest .ok
          ([n, 0, 0, 0, 0, 0, 0] ++ beBytes 2 s.link.badFrames.value ++ beBytes 2 s.link.droppedRefusals.value ++
            beBytes 2 s.link.ignoredEntries.value ++ [0, 0, 0, 0])) ∧
      (24 ≤ n.toNat → ¬ (64 ≤ n.toNat ∧ n.toNat < 76) → n ≠ 0x80 → s.onlyAnswered t q rest .badArgument [])

/-! ## What every step keeps -/

/-- R95: whatever a step does, each channel state other than SERVING still carries its own hold cause, so a hold line is
deasserted only on a SERVING channel. -/
def Obligations.EveryStepKeepsTheHoldCauses : Prop :=
  ∀ s t : State, s.channelsFit → step s = .next t →
    t.channelsFit ∧ ∀ c, t.holdLine c = false → (t.chan c).state = .serving

/-- R133: whatever a step does, no two entries of the seen table have the same serial. -/
def Obligations.EveryStepKeepsTheSerialsDistinct : Prop :=
  ∀ s t : State, s.serialsDistinct → step s = .next t → t.serialsDistinct

/-- R156, R157, R158: whatever a step does, at most 8 notices wait, 8 wait while any backlog flag is set, no flag stands
twice, and the transmitter is idle only with no reply and no notice to send. -/
def Obligations.EveryStepKeepsTheNoticesInOrder : Prop :=
  ∀ s t : State, step s = .next t →
    (s.noticesFit → t.noticesFit) ∧ (s.transmitterBusy → t.transmitterBusy)

/-- R54, R55, R56: whatever a step does, while a nonce may be drawn the next value lies below the block end and the block
end not above the limit in the store; so the values drawn never reach past a reserved limit, and a reset resumes at it. -/
def Obligations.EveryStepKeepsTheNoncesSafe : Prop :=
  ∀ s t : State, s.noncesSafe → step s = .next t → t.noncesSafe

/-- R47, R49: whatever a step does, a locked part stays locked and its key slots keep their contents, given that no key or
lock save is asked for on a locked part, which every step keeps. -/
def Obligations.LockedKeysArePermanent : Prop :=
  ∀ s t : State, s.keyWorkFits → step s = .next t →
    t.keyWorkFits ∧ (s.store.locked = true → t.store.locked = true ∧ t.store.keys = s.store.keys)

/-- The invariants that every step keeps hold of the part in its first reset. -/
def Obligations.ResetMeetsTheInvariants : Prop :=
  State.reset.channelsFit ∧ State.reset.serialsDistinct ∧ State.reset.noticesFit ∧ State.reset.noncesSafe ∧
    State.reset.keyWorkFits ∧ State.reset.transmitterBusy
end

