-- ==== Sys2Proof/Laws/State.lean ====
section
/-! SUPPORT. Reading a field after an update of the state: one lemma per update and field, so that no later proof
unfolds a record update. -/

namespace Sys2Proof.Machine

variable (s : State)

/-! ## What an update leaves alone -/

@[simp] theorem State.setBay_now (b : BayId) (v : Bay) : (s.setBay b v).now = s.now := rfl
@[simp] theorem State.setBay_pending (b : BayId) (v : Bay) : (s.setBay b v).pending = s.pending := rfl
@[simp] theorem State.setBay_freeCount (b : BayId) (v : Bay) : (s.setBay b v).freeCount = s.freeCount := rfl
@[simp] theorem State.setBay_pins (b : BayId) (v : Bay) : (s.setBay b v).pins = s.pins := rfl
@[simp] theorem State.setBay_phase (b : BayId) (v : Bay) : (s.setBay b v).phase = s.phase := rfl
@[simp] theorem State.setBay_cause (b : BayId) (v : Bay) : (s.setBay b v).cause = s.cause := rfl
@[simp] theorem State.setBay_ageLimit (b : BayId) (v : Bay) : (s.setBay b v).ageLimit = s.ageLimit := rfl
@[simp] theorem State.setBay_doubtThreshold (b : BayId) (v : Bay) : (s.setBay b v).doubtThreshold = s.doubtThreshold := rfl
@[simp] theorem State.setBay_refillThreshold (b : BayId) (v : Bay) : (s.setBay b v).refillThreshold = s.refillThreshold := rfl
@[simp] theorem State.setBay_chans (b : BayId) (v : Bay) : (s.setBay b v).chans = s.chans := rfl
@[simp] theorem State.setBay_meters (b : BayId) (v : Bay) : (s.setBay b v).meters = s.meters := rfl
@[simp] theorem State.setBay_meterQueue (b : BayId) (v : Bay) : (s.setBay b v).meterQueue = s.meterQueue := rfl
@[simp] theorem State.setBay_meterHand (b : BayId) (v : Bay) : (s.setBay b v).meterHand = s.meterHand := rfl
@[simp] theorem State.setBay_segL (b : BayId) (v : Bay) : (s.setBay b v).segL = s.segL := rfl
@[simp] theorem State.setBay_segR (b : BayId) (v : Bay) : (s.setBay b v).segR = s.segR := rfl
@[simp] theorem State.setBay_challenge (b : BayId) (v : Bay) : (s.setBay b v).challenge = s.challenge := rfl
@[simp] theorem State.setBay_store (b : BayId) (v : Bay) : (s.setBay b v).store = s.store := rfl
@[simp] theorem State.setBay_hist (b : BayId) (v : Bay) : (s.setBay b v).hist = s.hist := rfl
@[simp] theorem State.setBay_link (b : BayId) (v : Bay) : (s.setBay b v).link = s.link := rfl

@[simp] theorem State.modBay_now (b : BayId) (f : Bay → Bay) : (s.modBay b f).now = s.now := rfl
@[simp] theorem State.modBay_pending (b : BayId) (f : Bay → Bay) : (s.modBay b f).pending = s.pending := rfl
@[simp] theorem State.modBay_freeCount (b : BayId) (f : Bay → Bay) : (s.modBay b f).freeCount = s.freeCount := rfl
@[simp] theorem State.modBay_pins (b : BayId) (f : Bay → Bay) : (s.modBay b f).pins = s.pins := rfl
@[simp] theorem State.modBay_phase (b : BayId) (f : Bay → Bay) : (s.modBay b f).phase = s.phase := rfl
@[simp] theorem State.modBay_cause (b : BayId) (f : Bay → Bay) : (s.modBay b f).cause = s.cause := rfl
@[simp] theorem State.modBay_ageLimit (b : BayId) (f : Bay → Bay) : (s.modBay b f).ageLimit = s.ageLimit := rfl
@[simp] theorem State.modBay_doubtThreshold (b : BayId) (f : Bay → Bay) : (s.modBay b f).doubtThreshold = s.doubtThreshold := rfl
@[simp] theorem State.modBay_refillThreshold (b : BayId) (f : Bay → Bay) : (s.modBay b f).refillThreshold = s.refillThreshold := rfl
@[simp] theorem State.modBay_chans (b : BayId) (f : Bay → Bay) : (s.modBay b f).chans = s.chans := rfl
@[simp] theorem State.modBay_meters (b : BayId) (f : Bay → Bay) : (s.modBay b f).meters = s.meters := rfl
@[simp] theorem State.modBay_meterQueue (b : BayId) (f : Bay → Bay) : (s.modBay b f).meterQueue = s.meterQueue := rfl
@[simp] theorem State.modBay_meterHand (b : BayId) (f : Bay → Bay) : (s.modBay b f).meterHand = s.meterHand := rfl
@[simp] theorem State.modBay_segL (b : BayId) (f : Bay → Bay) : (s.modBay b f).segL = s.segL := rfl
@[simp] theorem State.modBay_segR (b : BayId) (f : Bay → Bay) : (s.modBay b f).segR = s.segR := rfl
@[simp] theorem State.modBay_challenge (b : BayId) (f : Bay → Bay) : (s.modBay b f).challenge = s.challenge := rfl
@[simp] theorem State.modBay_store (b : BayId) (f : Bay → Bay) : (s.modBay b f).store = s.store := rfl
@[simp] theorem State.modBay_hist (b : BayId) (f : Bay → Bay) : (s.modBay b f).hist = s.hist := rfl
@[simp] theorem State.modBay_link (b : BayId) (f : Bay → Bay) : (s.modBay b f).link = s.link := rfl

@[simp] theorem State.setChan_now (c : ChanId) (v : Channel) : (s.setChan c v).now = s.now := rfl
@[simp] theorem State.setChan_pending (c : ChanId) (v : Channel) : (s.setChan c v).pending = s.pending := rfl
@[simp] theorem State.setChan_freeCount (c : ChanId) (v : Channel) : (s.setChan c v).freeCount = s.freeCount := rfl
@[simp] theorem State.setChan_pins (c : ChanId) (v : Channel) : (s.setChan c v).pins = s.pins := rfl
@[simp] theorem State.setChan_phase (c : ChanId) (v : Channel) : (s.setChan c v).phase = s.phase := rfl
@[simp] theorem State.setChan_cause (c : ChanId) (v : Channel) : (s.setChan c v).cause = s.cause := rfl
@[simp] theorem State.setChan_ageLimit (c : ChanId) (v : Channel) : (s.setChan c v).ageLimit = s.ageLimit := rfl
@[simp] theorem State.setChan_doubtThreshold (c : ChanId) (v : Channel) : (s.setChan c v).doubtThreshold = s.doubtThreshold := rfl
@[simp] theorem State.setChan_refillThreshold (c : ChanId) (v : Channel) : (s.setChan c v).refillThreshold = s.refillThreshold := rfl
@[simp] theorem State.setChan_bays (c : ChanId) (v : Channel) : (s.setChan c v).bays = s.bays := rfl
@[simp] theorem State.setChan_meters (c : ChanId) (v : Channel) : (s.setChan c v).meters = s.meters := rfl
@[simp] theorem State.setChan_meterQueue (c : ChanId) (v : Channel) : (s.setChan c v).meterQueue = s.meterQueue := rfl
@[simp] theorem State.setChan_meterHand (c : ChanId) (v : Channel) : (s.setChan c v).meterHand = s.meterHand := rfl
@[simp] theorem State.setChan_segL (c : ChanId) (v : Channel) : (s.setChan c v).segL = s.segL := rfl
@[simp] theorem State.setChan_segR (c : ChanId) (v : Channel) : (s.setChan c v).segR = s.segR := rfl
@[simp] theorem State.setChan_challenge (c : ChanId) (v : Channel) : (s.setChan c v).challenge = s.challenge := rfl
@[simp] theorem State.setChan_store (c : ChanId) (v : Channel) : (s.setChan c v).store = s.store := rfl
@[simp] theorem State.setChan_hist (c : ChanId) (v : Channel) : (s.setChan c v).hist = s.hist := rfl
@[simp] theorem State.setChan_link (c : ChanId) (v : Channel) : (s.setChan c v).link = s.link := rfl

@[simp] theorem State.modChan_now (c : ChanId) (f : Channel → Channel) : (s.modChan c f).now = s.now := rfl
@[simp] theorem State.modChan_pending (c : ChanId) (f : Channel → Channel) : (s.modChan c f).pending = s.pending := rfl
@[simp] theorem State.modChan_freeCount (c : ChanId) (f : Channel → Channel) : (s.modChan c f).freeCount = s.freeCount := rfl
@[simp] theorem State.modChan_pins (c : ChanId) (f : Channel → Channel) : (s.modChan c f).pins = s.pins := rfl
@[simp] theorem State.modChan_phase (c : ChanId) (f : Channel → Channel) : (s.modChan c f).phase = s.phase := rfl
@[simp] theorem State.modChan_cause (c : ChanId) (f : Channel → Channel) : (s.modChan c f).cause = s.cause := rfl
@[simp] theorem State.modChan_ageLimit (c : ChanId) (f : Channel → Channel) : (s.modChan c f).ageLimit = s.ageLimit := rfl
@[simp] theorem State.modChan_doubtThreshold (c : ChanId) (f : Channel → Channel) : (s.modChan c f).doubtThreshold = s.doubtThreshold := rfl
@[simp] theorem State.modChan_refillThreshold (c : ChanId) (f : Channel → Channel) : (s.modChan c f).refillThreshold = s.refillThreshold := rfl
@[simp] theorem State.modChan_bays (c : ChanId) (f : Channel → Channel) : (s.modChan c f).bays = s.bays := rfl
@[simp] theorem State.modChan_meters (c : ChanId) (f : Channel → Channel) : (s.modChan c f).meters = s.meters := rfl
@[simp] theorem State.modChan_meterQueue (c : ChanId) (f : Channel → Channel) : (s.modChan c f).meterQueue = s.meterQueue := rfl
@[simp] theorem State.modChan_meterHand (c : ChanId) (f : Channel → Channel) : (s.modChan c f).meterHand = s.meterHand := rfl
@[simp] theorem State.modChan_segL (c : ChanId) (f : Channel → Channel) : (s.modChan c f).segL = s.segL := rfl
@[simp] theorem State.modChan_segR (c : ChanId) (f : Channel → Channel) : (s.modChan c f).segR = s.segR := rfl
@[simp] theorem State.modChan_challenge (c : ChanId) (f : Channel → Channel) : (s.modChan c f).challenge = s.challenge := rfl
@[simp] theorem State.modChan_store (c : ChanId) (f : Channel → Channel) : (s.modChan c f).store = s.store := rfl
@[simp] theorem State.modChan_hist (c : ChanId) (f : Channel → Channel) : (s.modChan c f).hist = s.hist := rfl
@[simp] theorem State.modChan_link (c : ChanId) (f : Channel → Channel) : (s.modChan c f).link = s.link := rfl

@[simp] theorem State.setMeter_now (c : ChanId) (v : Meter) : (s.setMeter c v).now = s.now := rfl
@[simp] theorem State.setMeter_pending (c : ChanId) (v : Meter) : (s.setMeter c v).pending = s.pending := rfl
@[simp] theorem State.setMeter_freeCount (c : ChanId) (v : Meter) : (s.setMeter c v).freeCount = s.freeCount := rfl
@[simp] theorem State.setMeter_pins (c : ChanId) (v : Meter) : (s.setMeter c v).pins = s.pins := rfl
@[simp] theorem State.setMeter_phase (c : ChanId) (v : Meter) : (s.setMeter c v).phase = s.phase := rfl
@[simp] theorem State.setMeter_cause (c : ChanId) (v : Meter) : (s.setMeter c v).cause = s.cause := rfl
@[simp] theorem State.setMeter_ageLimit (c : ChanId) (v : Meter) : (s.setMeter c v).ageLimit = s.ageLimit := rfl
@[simp] theorem State.setMeter_doubtThreshold (c : ChanId) (v : Meter) : (s.setMeter c v).doubtThreshold = s.doubtThreshold := rfl
@[simp] theorem State.setMeter_refillThreshold (c : ChanId) (v : Meter) : (s.setMeter c v).refillThreshold = s.refillThreshold := rfl
@[simp] theorem State.setMeter_bays (c : ChanId) (v : Meter) : (s.setMeter c v).bays = s.bays := rfl
@[simp] theorem State.setMeter_chans (c : ChanId) (v : Meter) : (s.setMeter c v).chans = s.chans := rfl
@[simp] theorem State.setMeter_meterQueue (c : ChanId) (v : Meter) : (s.setMeter c v).meterQueue = s.meterQueue := rfl
@[simp] theorem State.setMeter_meterHand (c : ChanId) (v : Meter) : (s.setMeter c v).meterHand = s.meterHand := rfl
@[simp] theorem State.setMeter_segL (c : ChanId) (v : Meter) : (s.setMeter c v).segL = s.segL := rfl
@[simp] theorem State.setMeter_segR (c : ChanId) (v : Meter) : (s.setMeter c v).segR = s.segR := rfl
@[simp] theorem State.setMeter_challenge (c : ChanId) (v : Meter) : (s.setMeter c v).challenge = s.challenge := rfl
@[simp] theorem State.setMeter_store (c : ChanId) (v : Meter) : (s.setMeter c v).store = s.store := rfl
@[simp] theorem State.setMeter_hist (c : ChanId) (v : Meter) : (s.setMeter c v).hist = s.hist := rfl
@[simp] theorem State.setMeter_link (c : ChanId) (v : Meter) : (s.setMeter c v).link = s.link := rfl

@[simp] theorem State.modMeter_now (c : ChanId) (f : Meter → Meter) : (s.modMeter c f).now = s.now := rfl
@[simp] theorem State.modMeter_pending (c : ChanId) (f : Meter → Meter) : (s.modMeter c f).pending = s.pending := rfl
@[simp] theorem State.modMeter_freeCount (c : ChanId) (f : Meter → Meter) : (s.modMeter c f).freeCount = s.freeCount := rfl
@[simp] theorem State.modMeter_pins (c : ChanId) (f : Meter → Meter) : (s.modMeter c f).pins = s.pins := rfl
@[simp] theorem State.modMeter_phase (c : ChanId) (f : Meter → Meter) : (s.modMeter c f).phase = s.phase := rfl
@[simp] theorem State.modMeter_cause (c : ChanId) (f : Meter → Meter) : (s.modMeter c f).cause = s.cause := rfl
@[simp] theorem State.modMeter_ageLimit (c : ChanId) (f : Meter → Meter) : (s.modMeter c f).ageLimit = s.ageLimit := rfl
@[simp] theorem State.modMeter_doubtThreshold (c : ChanId) (f : Meter → Meter) : (s.modMeter c f).doubtThreshold = s.doubtThreshold := rfl
@[simp] theorem State.modMeter_refillThreshold (c : ChanId) (f : Meter → Meter) : (s.modMeter c f).refillThreshold = s.refillThreshold := rfl
@[simp] theorem State.modMeter_bays (c : ChanId) (f : Meter → Meter) : (s.modMeter c f).bays = s.bays := rfl
@[simp] theorem State.modMeter_chans (c : ChanId) (f : Meter → Meter) : (s.modMeter c f).chans = s.chans := rfl
@[simp] theorem State.modMeter_meterQueue (c : ChanId) (f : Meter → Meter) : (s.modMeter c f).meterQueue = s.meterQueue := rfl
@[simp] theorem State.modMeter_meterHand (c : ChanId) (f : Meter → Meter) : (s.modMeter c f).meterHand = s.meterHand := rfl
@[simp] theorem State.modMeter_segL (c : ChanId) (f : Meter → Meter) : (s.modMeter c f).segL = s.segL := rfl
@[simp] theorem State.modMeter_segR (c : ChanId) (f : Meter → Meter) : (s.modMeter c f).segR = s.segR := rfl
@[simp] theorem State.modMeter_challenge (c : ChanId) (f : Meter → Meter) : (s.modMeter c f).challenge = s.challenge := rfl
@[simp] theorem State.modMeter_store (c : ChanId) (f : Meter → Meter) : (s.modMeter c f).store = s.store := rfl
@[simp] theorem State.modMeter_hist (c : ChanId) (f : Meter → Meter) : (s.modMeter c f).hist = s.hist := rfl
@[simp] theorem State.modMeter_link (c : ChanId) (f : Meter → Meter) : (s.modMeter c f).link = s.link := rfl

@[simp] theorem State.modHist_now (f : HistoryUnit → HistoryUnit) : (s.modHist f).now = s.now := rfl
@[simp] theorem State.modHist_pending (f : HistoryUnit → HistoryUnit) : (s.modHist f).pending = s.pending := rfl
@[simp] theorem State.modHist_freeCount (f : HistoryUnit → HistoryUnit) : (s.modHist f).freeCount = s.freeCount := rfl
@[simp] theorem State.modHist_pins (f : HistoryUnit → HistoryUnit) : (s.modHist f).pins = s.pins := rfl
@[simp] theorem State.modHist_phase (f : HistoryUnit → HistoryUnit) : (s.modHist f).phase = s.phase := rfl
@[simp] theorem State.modHist_cause (f : HistoryUnit → HistoryUnit) : (s.modHist f).cause = s.cause := rfl
@[simp] theorem State.modHist_ageLimit (f : HistoryUnit → HistoryUnit) : (s.modHist f).ageLimit = s.ageLimit := rfl
@[simp] theorem State.modHist_doubtThreshold (f : HistoryUnit → HistoryUnit) : (s.modHist f).doubtThreshold = s.doubtThreshold := rfl
@[simp] theorem State.modHist_refillThreshold (f : HistoryUnit → HistoryUnit) : (s.modHist f).refillThreshold = s.refillThreshold := rfl
@[simp] theorem State.modHist_bays (f : HistoryUnit → HistoryUnit) : (s.modHist f).bays = s.bays := rfl
@[simp] theorem State.modHist_chans (f : HistoryUnit → HistoryUnit) : (s.modHist f).chans = s.chans := rfl
@[simp] theorem State.modHist_meters (f : HistoryUnit → HistoryUnit) : (s.modHist f).meters = s.meters := rfl
@[simp] theorem State.modHist_meterQueue (f : HistoryUnit → HistoryUnit) : (s.modHist f).meterQueue = s.meterQueue := rfl
@[simp] theorem State.modHist_meterHand (f : HistoryUnit → HistoryUnit) : (s.modHist f).meterHand = s.meterHand := rfl
@[simp] theorem State.modHist_segL (f : HistoryUnit → HistoryUnit) : (s.modHist f).segL = s.segL := rfl
@[simp] theorem State.modHist_segR (f : HistoryUnit → HistoryUnit) : (s.modHist f).segR = s.segR := rfl
@[simp] theorem State.modHist_challenge (f : HistoryUnit → HistoryUnit) : (s.modHist f).challenge = s.challenge := rfl
@[simp] theorem State.modHist_store (f : HistoryUnit → HistoryUnit) : (s.modHist f).store = s.store := rfl
@[simp] theorem State.modHist_link (f : HistoryUnit → HistoryUnit) : (s.modHist f).link = s.link := rfl

@[simp] theorem State.modLink_now (f : LinkUnit → LinkUnit) : (s.modLink f).now = s.now := rfl
@[simp] theorem State.modLink_pending (f : LinkUnit → LinkUnit) : (s.modLink f).pending = s.pending := rfl
@[simp] theorem State.modLink_freeCount (f : LinkUnit → LinkUnit) : (s.modLink f).freeCount = s.freeCount := rfl
@[simp] theorem State.modLink_pins (f : LinkUnit → LinkUnit) : (s.modLink f).pins = s.pins := rfl
@[simp] theorem State.modLink_phase (f : LinkUnit → LinkUnit) : (s.modLink f).phase = s.phase := rfl
@[simp] theorem State.modLink_cause (f : LinkUnit → LinkUnit) : (s.modLink f).cause = s.cause := rfl
@[simp] theorem State.modLink_ageLimit (f : LinkUnit → LinkUnit) : (s.modLink f).ageLimit = s.ageLimit := rfl
@[simp] theorem State.modLink_doubtThreshold (f : LinkUnit → LinkUnit) : (s.modLink f).doubtThreshold = s.doubtThreshold := rfl
@[simp] theorem State.modLink_refillThreshold (f : LinkUnit → LinkUnit) : (s.modLink f).refillThreshold = s.refillThreshold := rfl
@[simp] theorem State.modLink_bays (f : LinkUnit → LinkUnit) : (s.modLink f).bays = s.bays := rfl
@[simp] theorem State.modLink_chans (f : LinkUnit → LinkUnit) : (s.modLink f).chans = s.chans := rfl
@[simp] theorem State.modLink_meters (f : LinkUnit → LinkUnit) : (s.modLink f).meters = s.meters := rfl
@[simp] theorem State.modLink_meterQueue (f : LinkUnit → LinkUnit) : (s.modLink f).meterQueue = s.meterQueue := rfl
@[simp] theorem State.modLink_meterHand (f : LinkUnit → LinkUnit) : (s.modLink f).meterHand = s.meterHand := rfl
@[simp] theorem State.modLink_segL (f : LinkUnit → LinkUnit) : (s.modLink f).segL = s.segL := rfl
@[simp] theorem State.modLink_segR (f : LinkUnit → LinkUnit) : (s.modLink f).segR = s.segR := rfl
@[simp] theorem State.modLink_challenge (f : LinkUnit → LinkUnit) : (s.modLink f).challenge = s.challenge := rfl
@[simp] theorem State.modLink_store (f : LinkUnit → LinkUnit) : (s.modLink f).store = s.store := rfl
@[simp] theorem State.modLink_hist (f : LinkUnit → LinkUnit) : (s.modLink f).hist = s.hist := rfl

@[simp] theorem State.advanceTo_pending (t : Nat) : (s.advanceTo t).pending = s.pending := rfl
@[simp] theorem State.advanceTo_freeCount (t : Nat) : (s.advanceTo t).freeCount = s.freeCount := rfl
@[simp] theorem State.advanceTo_pins (t : Nat) : (s.advanceTo t).pins = s.pins := rfl
@[simp] theorem State.advanceTo_phase (t : Nat) : (s.advanceTo t).phase = s.phase := rfl
@[simp] theorem State.advanceTo_cause (t : Nat) : (s.advanceTo t).cause = s.cause := rfl
@[simp] theorem State.advanceTo_ageLimit (t : Nat) : (s.advanceTo t).ageLimit = s.ageLimit := rfl
@[simp] theorem State.advanceTo_doubtThreshold (t : Nat) : (s.advanceTo t).doubtThreshold = s.doubtThreshold := rfl
@[simp] theorem State.advanceTo_refillThreshold (t : Nat) : (s.advanceTo t).refillThreshold = s.refillThreshold := rfl
@[simp] theorem State.advanceTo_bays (t : Nat) : (s.advanceTo t).bays = s.bays := rfl
@[simp] theorem State.advanceTo_chans (t : Nat) : (s.advanceTo t).chans = s.chans := rfl
@[simp] theorem State.advanceTo_meters (t : Nat) : (s.advanceTo t).meters = s.meters := rfl
@[simp] theorem State.advanceTo_meterQueue (t : Nat) : (s.advanceTo t).meterQueue = s.meterQueue := rfl
@[simp] theorem State.advanceTo_meterHand (t : Nat) : (s.advanceTo t).meterHand = s.meterHand := rfl
@[simp] theorem State.advanceTo_segL (t : Nat) : (s.advanceTo t).segL = s.segL := rfl
@[simp] theorem State.advanceTo_segR (t : Nat) : (s.advanceTo t).segR = s.segR := rfl
@[simp] theorem State.advanceTo_challenge (t : Nat) : (s.advanceTo t).challenge = s.challenge := rfl
@[simp] theorem State.advanceTo_store (t : Nat) : (s.advanceTo t).store = s.store := rfl
@[simp] theorem State.advanceTo_hist (t : Nat) : (s.advanceTo t).hist = s.hist := rfl
@[simp] theorem State.advanceTo_link (t : Nat) : (s.advanceTo t).link = s.link := rfl

@[simp] theorem State.idle_pending : (s.idle).pending = s.pending := rfl
@[simp] theorem State.idle_freeCount : (s.idle).freeCount = s.freeCount := rfl
@[simp] theorem State.idle_pins : (s.idle).pins = s.pins := rfl
@[simp] theorem State.idle_phase : (s.idle).phase = s.phase := rfl
@[simp] theorem State.idle_cause : (s.idle).cause = s.cause := rfl
@[simp] theorem State.idle_ageLimit : (s.idle).ageLimit = s.ageLimit := rfl
@[simp] theorem State.idle_doubtThreshold : (s.idle).doubtThreshold = s.doubtThreshold := rfl
@[simp] theorem State.idle_refillThreshold : (s.idle).refillThreshold = s.refillThreshold := rfl
@[simp] theorem State.idle_bays : (s.idle).bays = s.bays := rfl
@[simp] theorem State.idle_chans : (s.idle).chans = s.chans := rfl
@[simp] theorem State.idle_meters : (s.idle).meters = s.meters := rfl
@[simp] theorem State.idle_meterQueue : (s.idle).meterQueue = s.meterQueue := rfl
@[simp] theorem State.idle_meterHand : (s.idle).meterHand = s.meterHand := rfl
@[simp] theorem State.idle_segL : (s.idle).segL = s.segL := rfl
@[simp] theorem State.idle_segR : (s.idle).segR = s.segR := rfl
@[simp] theorem State.idle_challenge : (s.idle).challenge = s.challenge := rfl
@[simp] theorem State.idle_store : (s.idle).store = s.store := rfl
@[simp] theorem State.idle_hist : (s.idle).hist = s.hist := rfl
@[simp] theorem State.idle_link : (s.idle).link = s.link := rfl

@[simp] theorem State.setFramer_now (f : Framer) : (s.setFramer f).now = s.now := rfl
@[simp] theorem State.setFramer_pending (f : Framer) : (s.setFramer f).pending = s.pending := rfl
@[simp] theorem State.setFramer_freeCount (f : Framer) : (s.setFramer f).freeCount = s.freeCount := rfl
@[simp] theorem State.setFramer_pins (f : Framer) : (s.setFramer f).pins = s.pins := rfl
@[simp] theorem State.setFramer_phase (f : Framer) : (s.setFramer f).phase = s.phase := rfl
@[simp] theorem State.setFramer_cause (f : Framer) : (s.setFramer f).cause = s.cause := rfl
@[simp] theorem State.setFramer_ageLimit (f : Framer) : (s.setFramer f).ageLimit = s.ageLimit := rfl
@[simp] theorem State.setFramer_doubtThreshold (f : Framer) : (s.setFramer f).doubtThreshold = s.doubtThreshold := rfl
@[simp] theorem State.setFramer_refillThreshold (f : Framer) : (s.setFramer f).refillThreshold = s.refillThreshold := rfl
@[simp] theorem State.setFramer_bays (f : Framer) : (s.setFramer f).bays = s.bays := rfl
@[simp] theorem State.setFramer_chans (f : Framer) : (s.setFramer f).chans = s.chans := rfl
@[simp] theorem State.setFramer_meters (f : Framer) : (s.setFramer f).meters = s.meters := rfl
@[simp] theorem State.setFramer_meterQueue (f : Framer) : (s.setFramer f).meterQueue = s.meterQueue := rfl
@[simp] theorem State.setFramer_meterHand (f : Framer) : (s.setFramer f).meterHand = s.meterHand := rfl
@[simp] theorem State.setFramer_segL (f : Framer) : (s.setFramer f).segL = s.segL := rfl
@[simp] theorem State.setFramer_segR (f : Framer) : (s.setFramer f).segR = s.segR := rfl
@[simp] theorem State.setFramer_challenge (f : Framer) : (s.setFramer f).challenge = s.challenge := rfl
@[simp] theorem State.setFramer_store (f : Framer) : (s.setFramer f).store = s.store := rfl
@[simp] theorem State.setFramer_hist (f : Framer) : (s.setFramer f).hist = s.hist := rfl

@[simp] theorem State.setPf_now (p : PfState) : (s.setPf p).now = s.now := rfl
@[simp] theorem State.setPf_pending (p : PfState) : (s.setPf p).pending = s.pending := rfl
@[simp] theorem State.setPf_freeCount (p : PfState) : (s.setPf p).freeCount = s.freeCount := rfl
@[simp] theorem State.setPf_pins (p : PfState) : (s.setPf p).pins = s.pins := rfl
@[simp] theorem State.setPf_phase (p : PfState) : (s.setPf p).phase = s.phase := rfl
@[simp] theorem State.setPf_cause (p : PfState) : (s.setPf p).cause = s.cause := rfl
@[simp] theorem State.setPf_ageLimit (p : PfState) : (s.setPf p).ageLimit = s.ageLimit := rfl
@[simp] theorem State.setPf_doubtThreshold (p : PfState) : (s.setPf p).doubtThreshold = s.doubtThreshold := rfl
@[simp] theorem State.setPf_refillThreshold (p : PfState) : (s.setPf p).refillThreshold = s.refillThreshold := rfl
@[simp] theorem State.setPf_bays (p : PfState) : (s.setPf p).bays = s.bays := rfl
@[simp] theorem State.setPf_chans (p : PfState) : (s.setPf p).chans = s.chans := rfl
@[simp] theorem State.setPf_meters (p : PfState) : (s.setPf p).meters = s.meters := rfl
@[simp] theorem State.setPf_meterQueue (p : PfState) : (s.setPf p).meterQueue = s.meterQueue := rfl
@[simp] theorem State.setPf_meterHand (p : PfState) : (s.setPf p).meterHand = s.meterHand := rfl
@[simp] theorem State.setPf_segL (p : PfState) : (s.setPf p).segL = s.segL := rfl
@[simp] theorem State.setPf_segR (p : PfState) : (s.setPf p).segR = s.segR := rfl
@[simp] theorem State.setPf_challenge (p : PfState) : (s.setPf p).challenge = s.challenge := rfl
@[simp] theorem State.setPf_store (p : PfState) : (s.setPf p).store = s.store := rfl
@[simp] theorem State.setPf_link (p : PfState) : (s.setPf p).link = s.link := rfl

@[simp] theorem State.reserve_now : (s.reserve).now = s.now := rfl
@[simp] theorem State.reserve_pending : (s.reserve).pending = s.pending := rfl
@[simp] theorem State.reserve_freeCount : (s.reserve).freeCount = s.freeCount := rfl
@[simp] theorem State.reserve_pins : (s.reserve).pins = s.pins := rfl
@[simp] theorem State.reserve_phase : (s.reserve).phase = s.phase := rfl
@[simp] theorem State.reserve_cause : (s.reserve).cause = s.cause := rfl
@[simp] theorem State.reserve_ageLimit : (s.reserve).ageLimit = s.ageLimit := rfl
@[simp] theorem State.reserve_doubtThreshold : (s.reserve).doubtThreshold = s.doubtThreshold := rfl
@[simp] theorem State.reserve_refillThreshold : (s.reserve).refillThreshold = s.refillThreshold := rfl
@[simp] theorem State.reserve_bays : (s.reserve).bays = s.bays := rfl
@[simp] theorem State.reserve_chans : (s.reserve).chans = s.chans := rfl
@[simp] theorem State.reserve_meters : (s.reserve).meters = s.meters := rfl
@[simp] theorem State.reserve_meterQueue : (s.reserve).meterQueue = s.meterQueue := rfl
@[simp] theorem State.reserve_meterHand : (s.reserve).meterHand = s.meterHand := rfl
@[simp] theorem State.reserve_segL : (s.reserve).segL = s.segL := rfl
@[simp] theorem State.reserve_segR : (s.reserve).segR = s.segR := rfl
@[simp] theorem State.reserve_challenge : (s.reserve).challenge = s.challenge := rfl
@[simp] theorem State.reserve_store : (s.reserve).store = s.store := rfl
@[simp] theorem State.reserve_hist : (s.reserve).hist = s.hist := rfl

@[simp] theorem State.waitFor_now (w : Waiting) : (s.waitFor w).now = s.now := rfl
@[simp] theorem State.waitFor_pending (w : Waiting) : (s.waitFor w).pending = s.pending := rfl
@[simp] theorem State.waitFor_freeCount (w : Waiting) : (s.waitFor w).freeCount = s.freeCount := rfl
@[simp] theorem State.waitFor_pins (w : Waiting) : (s.waitFor w).pins = s.pins := rfl
@[simp] theorem State.waitFor_phase (w : Waiting) : (s.waitFor w).phase = s.phase := rfl
@[simp] theorem State.waitFor_cause (w : Waiting) : (s.waitFor w).cause = s.cause := rfl
@[simp] theorem State.waitFor_ageLimit (w : Waiting) : (s.waitFor w).ageLimit = s.ageLimit := rfl
@[simp] theorem State.waitFor_doubtThreshold (w : Waiting) : (s.waitFor w).doubtThreshold = s.doubtThreshold := rfl
@[simp] theorem State.waitFor_refillThreshold (w : Waiting) : (s.waitFor w).refillThreshold = s.refillThreshold := rfl
@[simp] theorem State.waitFor_bays (w : Waiting) : (s.waitFor w).bays = s.bays := rfl
@[simp] theorem State.waitFor_chans (w : Waiting) : (s.waitFor w).chans = s.chans := rfl
@[simp] theorem State.waitFor_meters (w : Waiting) : (s.waitFor w).meters = s.meters := rfl
@[simp] theorem State.waitFor_meterQueue (w : Waiting) : (s.waitFor w).meterQueue = s.meterQueue := rfl
@[simp] theorem State.waitFor_meterHand (w : Waiting) : (s.waitFor w).meterHand = s.meterHand := rfl
@[simp] theorem State.waitFor_segL (w : Waiting) : (s.waitFor w).segL = s.segL := rfl
@[simp] theorem State.waitFor_segR (w : Waiting) : (s.waitFor w).segR = s.segR := rfl
@[simp] theorem State.waitFor_challenge (w : Waiting) : (s.waitFor w).challenge = s.challenge := rfl
@[simp] theorem State.waitFor_store (w : Waiting) : (s.waitFor w).store = s.store := rfl
@[simp] theorem State.waitFor_hist (w : Waiting) : (s.waitFor w).hist = s.hist := rfl

@[simp] theorem State.setPresence_now (b : BayId) (high : Bool) : (s.setPresence b high).now = s.now := rfl
@[simp] theorem State.setPresence_pending (b : BayId) (high : Bool) : (s.setPresence b high).pending = s.pending := rfl
@[simp] theorem State.setPresence_freeCount (b : BayId) (high : Bool) : (s.setPresence b high).freeCount = s.freeCount := rfl
@[simp] theorem State.setPresence_phase (b : BayId) (high : Bool) : (s.setPresence b high).phase = s.phase := rfl
@[simp] theorem State.setPresence_cause (b : BayId) (high : Bool) : (s.setPresence b high).cause = s.cause := rfl
@[simp] theorem State.setPresence_ageLimit (b : BayId) (high : Bool) : (s.setPresence b high).ageLimit = s.ageLimit := rfl
@[simp] theorem State.setPresence_doubtThreshold (b : BayId) (high : Bool) : (s.setPresence b high).doubtThreshold = s.doubtThreshold := rfl
@[simp] theorem State.setPresence_refillThreshold (b : BayId) (high : Bool) : (s.setPresence b high).refillThreshold = s.refillThreshold := rfl
@[simp] theorem State.setPresence_bays (b : BayId) (high : Bool) : (s.setPresence b high).bays = s.bays := rfl
@[simp] theorem State.setPresence_chans (b : BayId) (high : Bool) : (s.setPresence b high).chans = s.chans := rfl
@[simp] theorem State.setPresence_meters (b : BayId) (high : Bool) : (s.setPresence b high).meters = s.meters := rfl
@[simp] theorem State.setPresence_meterQueue (b : BayId) (high : Bool) : (s.setPresence b high).meterQueue = s.meterQueue := rfl
@[simp] theorem State.setPresence_meterHand (b : BayId) (high : Bool) : (s.setPresence b high).meterHand = s.meterHand := rfl
@[simp] theorem State.setPresence_segL (b : BayId) (high : Bool) : (s.setPresence b high).segL = s.segL := rfl
@[simp] theorem State.setPresence_segR (b : BayId) (high : Bool) : (s.setPresence b high).segR = s.segR := rfl
@[simp] theorem State.setPresence_challenge (b : BayId) (high : Bool) : (s.setPresence b high).challenge = s.challenge := rfl
@[simp] theorem State.setPresence_store (b : BayId) (high : Bool) : (s.setPresence b high).store = s.store := rfl
@[simp] theorem State.setPresence_hist (b : BayId) (high : Bool) : (s.setPresence b high).hist = s.hist := rfl
@[simp] theorem State.setPresence_link (b : BayId) (high : Bool) : (s.setPresence b high).link = s.link := rfl

@[simp] theorem State.setProbe_now (b : BayId) (signal : BitVec 16) : (s.setProbe b signal).now = s.now := rfl
@[simp] theorem State.setProbe_pending (b : BayId) (signal : BitVec 16) : (s.setProbe b signal).pending = s.pending := rfl
@[simp] theorem State.setProbe_freeCount (b : BayId) (signal : BitVec 16) : (s.setProbe b signal).freeCount = s.freeCount := rfl
@[simp] theorem State.setProbe_phase (b : BayId) (signal : BitVec 16) : (s.setProbe b signal).phase = s.phase := rfl
@[simp] theorem State.setProbe_cause (b : BayId) (signal : BitVec 16) : (s.setProbe b signal).cause = s.cause := rfl
@[simp] theorem State.setProbe_ageLimit (b : BayId) (signal : BitVec 16) : (s.setProbe b signal).ageLimit = s.ageLimit := rfl
@[simp] theorem State.setProbe_doubtThreshold (b : BayId) (signal : BitVec 16) : (s.setProbe b signal).doubtThreshold = s.doubtThreshold := rfl
@[simp] theorem State.setProbe_refillThreshold (b : BayId) (signal : BitVec 16) : (s.setProbe b signal).refillThreshold = s.refillThreshold := rfl
@[simp] theorem State.setProbe_bays (b : BayId) (signal : BitVec 16) : (s.setProbe b signal).bays = s.bays := rfl
@[simp] theorem State.setProbe_chans (b : BayId) (signal : BitVec 16) : (s.setProbe b signal).chans = s.chans := rfl
@[simp] theorem State.setProbe_meters (b : BayId) (signal : BitVec 16) : (s.setProbe b signal).meters = s.meters := rfl
@[simp] theorem State.setProbe_meterQueue (b : BayId) (signal : BitVec 16) : (s.setProbe b signal).meterQueue = s.meterQueue := rfl
@[simp] theorem State.setProbe_meterHand (b : BayId) (signal : BitVec 16) : (s.setProbe b signal).meterHand = s.meterHand := rfl
@[simp] theorem State.setProbe_segL (b : BayId) (signal : BitVec 16) : (s.setProbe b signal).segL = s.segL := rfl
@[simp] theorem State.setProbe_segR (b : BayId) (signal : BitVec 16) : (s.setProbe b signal).segR = s.segR := rfl
@[simp] theorem State.setProbe_challenge (b : BayId) (signal : BitVec 16) : (s.setProbe b signal).challenge = s.challenge := rfl
@[simp] theorem State.setProbe_store (b : BayId) (signal : BitVec 16) : (s.setProbe b signal).store = s.store := rfl
@[simp] theorem State.setProbe_hist (b : BayId) (signal : BitVec 16) : (s.setProbe b signal).hist = s.hist := rfl
@[simp] theorem State.setProbe_link (b : BayId) (signal : BitVec 16) : (s.setProbe b signal).link = s.link := rfl

@[simp] theorem State.setSeg_now (g : Segment) (v : SegCtl) : (s.setSeg g v).now = s.now := by cases g <;> rfl
@[simp] theorem State.setSeg_pending (g : Segment) (v : SegCtl) : (s.setSeg g v).pending = s.pending := by cases g <;> rfl
@[simp] theorem State.setSeg_freeCount (g : Segment) (v : SegCtl) : (s.setSeg g v).freeCount = s.freeCount := by cases g <;> rfl
@[simp] theorem State.setSeg_pins (g : Segment) (v : SegCtl) : (s.setSeg g v).pins = s.pins := by cases g <;> rfl
@[simp] theorem State.setSeg_phase (g : Segment) (v : SegCtl) : (s.setSeg g v).phase = s.phase := by cases g <;> rfl
@[simp] theorem State.setSeg_cause (g : Segment) (v : SegCtl) : (s.setSeg g v).cause = s.cause := by cases g <;> rfl
@[simp] theorem State.setSeg_ageLimit (g : Segment) (v : SegCtl) : (s.setSeg g v).ageLimit = s.ageLimit := by cases g <;> rfl
@[simp] theorem State.setSeg_doubtThreshold (g : Segment) (v : SegCtl) : (s.setSeg g v).doubtThreshold = s.doubtThreshold := by cases g <;> rfl
@[simp] theorem State.setSeg_refillThreshold (g : Segment) (v : SegCtl) : (s.setSeg g v).refillThreshold = s.refillThreshold := by cases g <;> rfl
@[simp] theorem State.setSeg_bays (g : Segment) (v : SegCtl) : (s.setSeg g v).bays = s.bays := by cases g <;> rfl
@[simp] theorem State.setSeg_chans (g : Segment) (v : SegCtl) : (s.setSeg g v).chans = s.chans := by cases g <;> rfl
@[simp] theorem State.setSeg_meters (g : Segment) (v : SegCtl) : (s.setSeg g v).meters = s.meters := by cases g <;> rfl
@[simp] theorem State.setSeg_meterQueue (g : Segment) (v : SegCtl) : (s.setSeg g v).meterQueue = s.meterQueue := by cases g <;> rfl
@[simp] theorem State.setSeg_meterHand (g : Segment) (v : SegCtl) : (s.setSeg g v).meterHand = s.meterHand := by cases g <;> rfl
@[simp] theorem State.setSeg_challenge (g : Segment) (v : SegCtl) : (s.setSeg g v).challenge = s.challenge := by cases g <;> rfl
@[simp] theorem State.setSeg_store (g : Segment) (v : SegCtl) : (s.setSeg g v).store = s.store := by cases g <;> rfl
@[simp] theorem State.setSeg_hist (g : Segment) (v : SegCtl) : (s.setSeg g v).hist = s.hist := by cases g <;> rfl
@[simp] theorem State.setSeg_link (g : Segment) (v : SegCtl) : (s.setSeg g v).link = s.link := by cases g <;> rfl

@[simp] theorem State.modSeg_now (g : Segment) (f : SegCtl → SegCtl) : (s.modSeg g f).now = s.now := by
  cases g <;> rfl
@[simp] theorem State.modSeg_pending (g : Segment) (f : SegCtl → SegCtl) : (s.modSeg g f).pending = s.pending := by
  cases g <;> rfl
@[simp] theorem State.modSeg_freeCount (g : Segment) (f : SegCtl → SegCtl) : (s.modSeg g f).freeCount = s.freeCount := by
  cases g <;> rfl
@[simp] theorem State.modSeg_pins (g : Segment) (f : SegCtl → SegCtl) : (s.modSeg g f).pins = s.pins := by
  cases g <;> rfl
@[simp] theorem State.modSeg_phase (g : Segment) (f : SegCtl → SegCtl) : (s.modSeg g f).phase = s.phase := by
  cases g <;> rfl
@[simp] theorem State.modSeg_cause (g : Segment) (f : SegCtl → SegCtl) : (s.modSeg g f).cause = s.cause := by
  cases g <;> rfl
@[simp] theorem State.modSeg_ageLimit (g : Segment) (f : SegCtl → SegCtl) : (s.modSeg g f).ageLimit = s.ageLimit := by
  cases g <;> rfl
@[simp] theorem State.modSeg_doubtThreshold (g : Segment) (f : SegCtl → SegCtl) : (s.modSeg g f).doubtThreshold = s.doubtThreshold := by
  cases g <;> rfl
@[simp] theorem State.modSeg_refillThreshold (g : Segment) (f : SegCtl → SegCtl) : (s.modSeg g f).refillThreshold = s.refillThreshold := by
  cases g <;> rfl
@[simp] theorem State.modSeg_bays (g : Segment) (f : SegCtl → SegCtl) : (s.modSeg g f).bays = s.bays := by
  cases g <;> rfl
@[simp] theorem State.modSeg_chans (g : Segment) (f : SegCtl → SegCtl) : (s.modSeg g f).chans = s.chans := by
  cases g <;> rfl
@[simp] theorem State.modSeg_meters (g : Segment) (f : SegCtl → SegCtl) : (s.modSeg g f).meters = s.meters := by
  cases g <;> rfl
@[simp] theorem State.modSeg_meterQueue (g : Segment) (f : SegCtl → SegCtl) : (s.modSeg g f).meterQueue = s.meterQueue := by
  cases g <;> rfl
@[simp] theorem State.modSeg_meterHand (g : Segment) (f : SegCtl → SegCtl) : (s.modSeg g f).meterHand = s.meterHand := by
  cases g <;> rfl
@[simp] theorem State.modSeg_challenge (g : Segment) (f : SegCtl → SegCtl) : (s.modSeg g f).challenge = s.challenge := by
  cases g <;> rfl
@[simp] theorem State.modSeg_store (g : Segment) (f : SegCtl → SegCtl) : (s.modSeg g f).store = s.store := by
  cases g <;> rfl
@[simp] theorem State.modSeg_hist (g : Segment) (f : SegCtl → SegCtl) : (s.modSeg g f).hist = s.hist := by
  cases g <;> rfl
@[simp] theorem State.modSeg_link (g : Segment) (f : SegCtl → SegCtl) : (s.modSeg g f).link = s.link := by
  cases g <;> rfl

/-! ## Reading a record back -/

@[simp] theorem State.bay_setBay (b : BayId) (v : Bay) : (s.setBay b v).bay b = v := by
  simp [State.bay, State.setBay]

theorem State.bay_setBay_ne {b c : BayId} (h : c ≠ b) (v : Bay) : (s.setBay b v).bay c = s.bay c := by
  have : b.val ≠ c.val := fun e => h (Fin.ext e.symm)
  simp [State.bay, State.setBay, this]

@[simp] theorem State.bay_modBay (b : BayId) (f : Bay → Bay) : (s.modBay b f).bay b = f (s.bay b) := by
  simp [State.modBay]

theorem State.bay_modBay_ne {b c : BayId} (h : c ≠ b) (f : Bay → Bay) : (s.modBay b f).bay c = s.bay c := by
  simp [State.modBay, State.bay_setBay_ne s h]

@[simp] theorem State.chan_setChan (c : ChanId) (v : Channel) : (s.setChan c v).chan c = v := by
  simp [State.chan, State.setChan]

theorem State.chan_setChan_ne {c d : ChanId} (h : d ≠ c) (v : Channel) : (s.setChan c v).chan d = s.chan d := by
  have : c.val ≠ d.val := fun e => h (Fin.ext e.symm)
  simp [State.chan, State.setChan, this]

@[simp] theorem State.chan_modChan (c : ChanId) (f : Channel → Channel) : (s.modChan c f).chan c = f (s.chan c) := by
  simp [State.modChan]

theorem State.chan_modChan_ne {c d : ChanId} (h : d ≠ c) (f : Channel → Channel) :
    (s.modChan c f).chan d = s.chan d := by
  simp [State.modChan, State.chan_setChan_ne s h]

@[simp] theorem State.meter_setMeter (c : ChanId) (v : Meter) : (s.setMeter c v).meter c = v := by
  simp [State.meter, State.setMeter]

theorem State.meter_setMeter_ne {c d : ChanId} (h : d ≠ c) (v : Meter) : (s.setMeter c v).meter d = s.meter d := by
  have : c.val ≠ d.val := fun e => h (Fin.ext e.symm)
  simp [State.meter, State.setMeter, this]

@[simp] theorem State.meter_modMeter (c : ChanId) (f : Meter → Meter) :
    (s.modMeter c f).meter c = f (s.meter c) := by
  simp [State.modMeter]

theorem State.meter_modMeter_ne {c d : ChanId} (h : d ≠ c) (f : Meter → Meter) :
    (s.modMeter c f).meter d = s.meter d := by
  simp [State.modMeter, State.meter_setMeter_ne s h]

@[simp] theorem State.seg_setSeg (g : Segment) (v : SegCtl) : (s.setSeg g v).seg g = v := by cases g <;> rfl

theorem State.seg_setSeg_ne {g k : Segment} (h : k ≠ g) (v : SegCtl) : (s.setSeg g v).seg k = s.seg k := by
  cases g <;> cases k <;> first | rfl | exact absurd rfl h

@[simp] theorem State.seg_modSeg (g : Segment) (f : SegCtl → SegCtl) : (s.modSeg g f).seg g = f (s.seg g) := by
  simp [State.modSeg]

theorem State.seg_modSeg_ne {g k : Segment} (h : k ≠ g) (f : SegCtl → SegCtl) :
    (s.modSeg g f).seg k = s.seg k := by
  simp [State.modSeg, State.seg_setSeg_ne s h]

@[simp] theorem State.advanceTo_now (t : Nat) : (s.advanceTo t).now = max s.now t := rfl

@[simp] theorem State.idle_now : s.idle.now = s.now + 1 := rfl

/-! ## A record of another kind is read as before -/

@[simp] theorem State.chan_setBay (b : BayId) (v : Bay) (x : ChanId) : (s.setBay b v).chan x = s.chan x := rfl
@[simp] theorem State.meter_setBay (b : BayId) (v : Bay) (x : ChanId) : (s.setBay b v).meter x = s.meter x := rfl
@[simp] theorem State.seg_setBay (b : BayId) (v : Bay) (x : Segment) : (s.setBay b v).seg x = s.seg x := by cases x <;> rfl

@[simp] theorem State.chan_modBay (b : BayId) (f : Bay → Bay) (x : ChanId) : (s.modBay b f).chan x = s.chan x := rfl
@[simp] theorem State.meter_modBay (b : BayId) (f : Bay → Bay) (x : ChanId) : (s.modBay b f).meter x = s.meter x := rfl
@[simp] theorem State.seg_modBay (b : BayId) (f : Bay → Bay) (x : Segment) : (s.modBay b f).seg x = s.seg x := by cases x <;> rfl

@[simp] theorem State.bay_setChan (c : ChanId) (v : Channel) (x : BayId) : (s.setChan c v).bay x = s.bay x := rfl
@[simp] theorem State.meter_setChan (c : ChanId) (v : Channel) (x : ChanId) : (s.setChan c v).meter x = s.meter x := rfl
@[simp] theorem State.seg_setChan (c : ChanId) (v : Channel) (x : Segment) : (s.setChan c v).seg x = s.seg x := by cases x <;> rfl

@[simp] theorem State.bay_modChan (c : ChanId) (f : Channel → Channel) (x : BayId) : (s.modChan c f).bay x = s.bay x := rfl
@[simp] theorem State.meter_modChan (c : ChanId) (f : Channel → Channel) (x : ChanId) : (s.modChan c f).meter x = s.meter x := rfl
@[simp] theorem State.seg_modChan (c : ChanId) (f : Channel → Channel) (x : Segment) : (s.modChan c f).seg x = s.seg x := by cases x <;> rfl

@[simp] theorem State.bay_setMeter (c : ChanId) (v : Meter) (x : BayId) : (s.setMeter c v).bay x = s.bay x := rfl
@[simp] theorem State.chan_setMeter (c : ChanId) (v : Meter) (x : ChanId) : (s.setMeter c v).chan x = s.chan x := rfl
@[simp] theorem State.seg_setMeter (c : ChanId) (v : Meter) (x : Segment) : (s.setMeter c v).seg x = s.seg x := by cases x <;> rfl

@[simp] theorem State.bay_modMeter (c : ChanId) (f : Meter → Meter) (x : BayId) : (s.modMeter c f).bay x = s.bay x := rfl
@[simp] theorem State.chan_modMeter (c : ChanId) (f : Meter → Meter) (x : ChanId) : (s.modMeter c f).chan x = s.chan x := rfl
@[simp] theorem State.seg_modMeter (c : ChanId) (f : Meter → Meter) (x : Segment) : (s.modMeter c f).seg x = s.seg x := by cases x <;> rfl

@[simp] theorem State.bay_setSeg (g : Segment) (v : SegCtl) (x : BayId) : (s.setSeg g v).bay x = s.bay x := by
  cases g <;> rfl
@[simp] theorem State.chan_setSeg (g : Segment) (v : SegCtl) (x : ChanId) : (s.setSeg g v).chan x = s.chan x := by
  cases g <;> rfl
@[simp] theorem State.meter_setSeg (g : Segment) (v : SegCtl) (x : ChanId) : (s.setSeg g v).meter x = s.meter x := by
  cases g <;> rfl

@[simp] theorem State.bay_modSeg (g : Segment) (f : SegCtl → SegCtl) (x : BayId) : (s.modSeg g f).bay x = s.bay x := by
  cases g <;> rfl
@[simp] theorem State.chan_modSeg (g : Segment) (f : SegCtl → SegCtl) (x : ChanId) : (s.modSeg g f).chan x = s.chan x := by
  cases g <;> rfl
@[simp] theorem State.meter_modSeg (g : Segment) (f : SegCtl → SegCtl) (x : ChanId) : (s.modSeg g f).meter x = s.meter x := by
  cases g <;> rfl

@[simp] theorem State.bay_advanceTo (t : Nat) (x : BayId) : (s.advanceTo t).bay x = s.bay x := rfl
@[simp] theorem State.chan_advanceTo (t : Nat) (x : ChanId) : (s.advanceTo t).chan x = s.chan x := rfl
@[simp] theorem State.meter_advanceTo (t : Nat) (x : ChanId) : (s.advanceTo t).meter x = s.meter x := rfl
@[simp] theorem State.seg_advanceTo (t : Nat) (x : Segment) : (s.advanceTo t).seg x = s.seg x := by cases x <;> rfl

@[simp] theorem State.bay_reserve  (x : BayId) : (s.reserve).bay x = s.bay x := rfl
@[simp] theorem State.chan_reserve  (x : ChanId) : (s.reserve).chan x = s.chan x := rfl
@[simp] theorem State.meter_reserve  (x : ChanId) : (s.reserve).meter x = s.meter x := rfl
@[simp] theorem State.seg_reserve  (x : Segment) : (s.reserve).seg x = s.seg x := by cases x <;> rfl

@[simp] theorem State.bay_modHist (f : HistoryUnit → HistoryUnit) (x : BayId) : (s.modHist f).bay x = s.bay x := rfl
@[simp] theorem State.chan_modHist (f : HistoryUnit → HistoryUnit) (x : ChanId) : (s.modHist f).chan x = s.chan x := rfl
@[simp] theorem State.meter_modHist (f : HistoryUnit → HistoryUnit) (x : ChanId) : (s.modHist f).meter x = s.meter x := rfl
@[simp] theorem State.seg_modHist (f : HistoryUnit → HistoryUnit) (x : Segment) : (s.modHist f).seg x = s.seg x := by cases x <;> rfl

/-! ## Notices and replies change the Link Interface alone -/

@[simp] theorem State.raise_now (n : Notice) : (s.raise n).now = s.now := by
  unfold State.raise; repeat' split
  all_goals rfl
@[simp] theorem State.raise_pending (n : Notice) : (s.raise n).pending = s.pending := by
  unfold State.raise; repeat' split
  all_goals rfl
@[simp] theorem State.raise_freeCount (n : Notice) : (s.raise n).freeCount = s.freeCount := by
  unfold State.raise; repeat' split
  all_goals rfl
@[simp] theorem State.raise_pins (n : Notice) : (s.raise n).pins = s.pins := by
  unfold State.raise; repeat' split
  all_goals rfl
@[simp] theorem State.raise_phase (n : Notice) : (s.raise n).phase = s.phase := by
  unfold State.raise; repeat' split
  all_goals rfl
@[simp] theorem State.raise_cause (n : Notice) : (s.raise n).cause = s.cause := by
  unfold State.raise; repeat' split
  all_goals rfl
@[simp] theorem State.raise_ageLimit (n : Notice) : (s.raise n).ageLimit = s.ageLimit := by
  unfold State.raise; repeat' split
  all_goals rfl
@[simp] theorem State.raise_doubtThreshold (n : Notice) : (s.raise n).doubtThreshold = s.doubtThreshold := by
  unfold State.raise; repeat' split
  all_goals rfl
@[simp] theorem State.raise_refillThreshold (n : Notice) : (s.raise n).refillThreshold = s.refillThreshold := by
  unfold State.raise; repeat' split
  all_goals rfl
@[simp] theorem State.raise_bays (n : Notice) : (s.raise n).bays = s.bays := by
  unfold State.raise; repeat' split
  all_goals rfl
@[simp] theorem State.raise_chans (n : Notice) : (s.raise n).chans = s.chans := by
  unfold State.raise; repeat' split
  all_goals rfl
@[simp] theorem State.raise_meters (n : Notice) : (s.raise n).meters = s.meters := by
  unfold State.raise; repeat' split
  all_goals rfl
@[simp] theorem State.raise_meterQueue (n : Notice) : (s.raise n).meterQueue = s.meterQueue := by
  unfold State.raise; repeat' split
  all_goals rfl
@[simp] theorem State.raise_meterHand (n : Notice) : (s.raise n).meterHand = s.meterHand := by
  unfold State.raise; repeat' split
  all_goals rfl
@[simp] theorem State.raise_segL (n : Notice) : (s.raise n).segL = s.segL := by
  unfold State.raise; repeat' split
  all_goals rfl
@[simp] theorem State.raise_segR (n : Notice) : (s.raise n).segR = s.segR := by
  unfold State.raise; repeat' split
  all_goals rfl
@[simp] theorem State.raise_challenge (n : Notice) : (s.raise n).challenge = s.challenge := by
  unfold State.raise; repeat' split
  all_goals rfl
@[simp] theorem State.raise_store (n : Notice) : (s.raise n).store = s.store := by
  unfold State.raise; repeat' split
  all_goals rfl
@[simp] theorem State.raise_hist (n : Notice) : (s.raise n).hist = s.hist := by
  unfold State.raise; repeat' split
  all_goals rfl
@[simp] theorem State.raise_link_framer (n : Notice) : (s.raise n).link.framer = s.link.framer := by
  unfold State.raise; repeat' split
  all_goals rfl
@[simp] theorem State.raise_link_intake (n : Notice) : (s.raise n).link.intake = s.link.intake := by
  unfold State.raise; repeat' split
  all_goals rfl
@[simp] theorem State.raise_link_waiting (n : Notice) : (s.raise n).link.waiting = s.link.waiting := by
  unfold State.raise; repeat' split
  all_goals rfl
@[simp] theorem State.raise_link_reserved (n : Notice) : (s.raise n).link.reserved = s.link.reserved := by
  unfold State.raise; repeat' split
  all_goals rfl
@[simp] theorem State.raise_link_replies (n : Notice) : (s.raise n).link.replies = s.link.replies := by
  unfold State.raise; repeat' split
  all_goals rfl
@[simp] theorem State.raise_link_noticeSeq (n : Notice) : (s.raise n).link.noticeSeq = s.link.noticeSeq := by
  unfold State.raise; repeat' split
  all_goals rfl
@[simp] theorem State.raise_link_tx (n : Notice) : (s.raise n).link.tx = s.link.tx := by
  unfold State.raise; repeat' split
  all_goals rfl
@[simp] theorem State.raise_link_badFrames (n : Notice) : (s.raise n).link.badFrames = s.link.badFrames := by
  unfold State.raise; repeat' split
  all_goals rfl
@[simp] theorem State.raise_link_droppedRefusals (n : Notice) : (s.raise n).link.droppedRefusals = s.link.droppedRefusals := by
  unfold State.raise; repeat' split
  all_goals rfl
@[simp] theorem State.raise_link_ignoredEntries (n : Notice) : (s.raise n).link.ignoredEntries = s.link.ignoredEntries := by
  unfold State.raise; repeat' split
  all_goals rfl
@[simp] theorem State.raise_link_rate (n : Notice) : (s.raise n).link.rate = s.link.rate := by
  unfold State.raise; repeat' split
  all_goals rfl
@[simp] theorem State.finishRequest_now (r : Result) (fs : List Byte) (z : Bool) :
    (s.finishRequest r fs z).now = s.now := by
  unfold State.finishRequest; split <;> rfl
@[simp] theorem State.finishRequest_pending (r : Result) (fs : List Byte) (z : Bool) :
    (s.finishRequest r fs z).pending = s.pending := by
  unfold State.finishRequest; split <;> rfl
@[simp] theorem State.finishRequest_freeCount (r : Result) (fs : List Byte) (z : Bool) :
    (s.finishRequest r fs z).freeCount = s.freeCount := by
  unfold State.finishRequest; split <;> rfl
@[simp] theorem State.finishRequest_pins (r : Result) (fs : List Byte) (z : Bool) :
    (s.finishRequest r fs z).pins = s.pins := by
  unfold State.finishRequest; split <;> rfl
@[simp] theorem State.finishRequest_phase (r : Result) (fs : List Byte) (z : Bool) :
    (s.finishRequest r fs z).phase = s.phase := by
  unfold State.finishRequest; split <;> rfl
@[simp] theorem State.finishRequest_cause (r : Result) (fs : List Byte) (z : Bool) :
    (s.finishRequest r fs z).cause = s.cause := by
  unfold State.finishRequest; split <;> rfl
@[simp] theorem State.finishRequest_ageLimit (r : Result) (fs : List Byte) (z : Bool) :
    (s.finishRequest r fs z).ageLimit = s.ageLimit := by
  unfold State.finishRequest; split <;> rfl
@[simp] theorem State.finishRequest_doubtThreshold (r : Result) (fs : List Byte) (z : Bool) :
    (s.finishRequest r fs z).doubtThreshold = s.doubtThreshold := by
  unfold State.finishRequest; split <;> rfl
@[simp] theorem State.finishRequest_refillThreshold (r : Result) (fs : List Byte) (z : Bool) :
    (s.finishRequest r fs z).refillThreshold = s.refillThreshold := by
  unfold State.finishRequest; split <;> rfl
@[simp] theorem State.finishRequest_bays (r : Result) (fs : List Byte) (z : Bool) :
    (s.finishRequest r fs z).bays = s.bays := by
  unfold State.finishRequest; split <;> rfl
@[simp] theorem State.finishRequest_chans (r : Result) (fs : List Byte) (z : Bool) :
    (s.finishRequest r fs z).chans = s.chans := by
  unfold State.finishRequest; split <;> rfl
@[simp] theorem State.finishRequest_meters (r : Result) (fs : List Byte) (z : Bool) :
    (s.finishRequest r fs z).meters = s.meters := by
  unfold State.finishRequest; split <;> rfl
@[simp] theorem State.finishRequest_meterQueue (r : Result) (fs : List Byte) (z : Bool) :
    (s.finishRequest r fs z).meterQueue = s.meterQueue := by
  unfold State.finishRequest; split <;> rfl
@[simp] theorem State.finishRequest_meterHand (r : Result) (fs : List Byte) (z : Bool) :
    (s.finishRequest r fs z).meterHand = s.meterHand := by
  unfold State.finishRequest; split <;> rfl
@[simp] theorem State.finishRequest_segL (r : Result) (fs : List Byte) (z : Bool) :
    (s.finishRequest r fs z).segL = s.segL := by
  unfold State.finishRequest; split <;> rfl
@[simp] theorem State.finishRequest_segR (r : Result) (fs : List Byte) (z : Bool) :
    (s.finishRequest r fs z).segR = s.segR := by
  unfold State.finishRequest; split <;> rfl
@[simp] theorem State.finishRequest_challenge (r : Result) (fs : List Byte) (z : Bool) :
    (s.finishRequest r fs z).challenge = s.challenge := by
  unfold State.finishRequest; split <;> rfl
@[simp] theorem State.finishRequest_store (r : Result) (fs : List Byte) (z : Bool) :
    (s.finishRequest r fs z).store = s.store := by
  unfold State.finishRequest; split <;> rfl
@[simp] theorem State.finishRequest_hist (r : Result) (fs : List Byte) (z : Bool) :
    (s.finishRequest r fs z).hist = s.hist := by
  unfold State.finishRequest; split <;> rfl
@[simp] theorem State.finishRequest_link_framer (r : Result) (fs : List Byte) (z : Bool) :
    (s.finishRequest r fs z).link.framer = s.link.framer := by
  unfold State.finishRequest; split <;> rfl
@[simp] theorem State.finishRequest_link_notices (r : Result) (fs : List Byte) (z : Bool) :
    (s.finishRequest r fs z).link.notices = s.link.notices := by
  unfold State.finishRequest; split <;> rfl
@[simp] theorem State.finishRequest_link_backlog (r : Result) (fs : List Byte) (z : Bool) :
    (s.finishRequest r fs z).link.backlog = s.link.backlog := by
  unfold State.finishRequest; split <;> rfl
@[simp] theorem State.finishRequest_link_noticeSeq (r : Result) (fs : List Byte) (z : Bool) :
    (s.finishRequest r fs z).link.noticeSeq = s.link.noticeSeq := by
  unfold State.finishRequest; split <;> rfl
@[simp] theorem State.finishRequest_link_tx (r : Result) (fs : List Byte) (z : Bool) :
    (s.finishRequest r fs z).link.tx = s.link.tx := by
  unfold State.finishRequest; split <;> rfl
@[simp] theorem State.finishRequest_link_badFrames (r : Result) (fs : List Byte) (z : Bool) :
    (s.finishRequest r fs z).link.badFrames = s.link.badFrames := by
  unfold State.finishRequest; split <;> rfl
@[simp] theorem State.finishRequest_link_droppedRefusals (r : Result) (fs : List Byte) (z : Bool) :
    (s.finishRequest r fs z).link.droppedRefusals = s.link.droppedRefusals := by
  unfold State.finishRequest; split <;> rfl
@[simp] theorem State.finishRequest_link_ignoredEntries (r : Result) (fs : List Byte) (z : Bool) :
    (s.finishRequest r fs z).link.ignoredEntries = s.link.ignoredEntries := by
  unfold State.finishRequest; split <;> rfl
@[simp] theorem State.finishRequest_link_rate (r : Result) (fs : List Byte) (z : Bool) :
    (s.finishRequest r fs z).link.rate = s.link.rate := by
  unfold State.finishRequest; split <;> rfl
@[simp] theorem State.bay_raise (n : Notice) (x : BayId) : (s.raise n).bay x = s.bay x := by
  simp [State.bay]
@[simp] theorem State.bay_finishRequest (r : Result) (fs : List Byte) (z : Bool) (x : BayId) :
    (s.finishRequest r fs z).bay x = s.bay x := by
  simp [State.bay]
@[simp] theorem State.chan_raise (n : Notice) (x : ChanId) : (s.raise n).chan x = s.chan x := by
  simp [State.chan]
@[simp] theorem State.chan_finishRequest (r : Result) (fs : List Byte) (z : Bool) (x : ChanId) :
    (s.finishRequest r fs z).chan x = s.chan x := by
  simp [State.chan]
@[simp] theorem State.meter_raise (n : Notice) (x : ChanId) : (s.raise n).meter x = s.meter x := by
  simp [State.meter]
@[simp] theorem State.meter_finishRequest (r : Result) (fs : List Byte) (z : Bool) (x : ChanId) :
    (s.finishRequest r fs z).meter x = s.meter x := by
  simp [State.meter]
@[simp] theorem State.seg_raise (n : Notice) (x : Segment) : (s.raise n).seg x = s.seg x := by
  cases x <;> simp [State.seg]
@[simp] theorem State.seg_finishRequest (r : Result) (fs : List Byte) (z : Bool) (x : Segment) :
    (s.finishRequest r fs z).seg x = s.seg x := by
  cases x <;> simp [State.seg]

end Sys2Proof.Machine
end

