-- ==== Sys2Proof/Laws/Within.lean ====
section
/-! SUPPORT. What the operations inside a command can do. `Within s t` says that `t` differs from `s` only as the
operations on bays, segments, channels' choices, the seen table, notices and replies can make it differ: it names all
that they leave alone, and the three properties of Safety.lean that they keep. One lemma per operation. -/

namespace Sys2Proof.Machine

/-- See the head of this file. -/
structure Within (s t : State) : Prop where
  now : t.now = s.now := by rfl
  pending : t.pending = s.pending := by rfl
  freeCount : t.freeCount = s.freeCount := by rfl
  pins : t.pins = s.pins := by rfl
  phase : t.phase = s.phase := by rfl
  cause : t.cause = s.cause := by rfl
  ageLimit : t.ageLimit = s.ageLimit := by rfl
  doubtThreshold : t.doubtThreshold = s.doubtThreshold := by rfl
  refillThreshold : t.refillThreshold = s.refillThreshold := by rfl
  meters : t.meters = s.meters := by rfl
  meterQueue : t.meterQueue = s.meterQueue := by rfl
  meterHand : t.meterHand = s.meterHand := by rfl
  challenge : t.challenge = s.challenge := by rfl
  store : t.store = s.store := by rfl
  keySaves : t.hist.keySaves = s.hist.keySaves := by rfl
  job : t.hist.saving.map SaveInProgress.job = s.hist.saving.map SaveInProgress.job := by rfl
  pfLevel : t.hist.pfLevel = s.hist.pfLevel := by rfl
  torn : t.hist.torn = s.hist.torn := by rfl
  framer : t.link.framer = s.link.framer := by rfl
  rate : t.link.rate = s.link.rate := by rfl
  badFrames : t.link.badFrames = s.link.badFrames := by rfl
  droppedRefusals : t.link.droppedRefusals = s.link.droppedRefusals := by rfl
  ignoredEntries : t.link.ignoredEntries = s.link.ignoredEntries := by rfl
  config : ∀ c, (t.chan c).config = (s.chan c).config := by intro c; rfl
  host : ∀ c, (t.chan c).causes.host = (s.chan c).causes.host := by intro c; rfl
  everServed : ∀ c, (t.chan c).everServed = (s.chan c).everServed := by intro c; rfl
  keyWait : t.link.waiting = some .keySave ↔ s.link.waiting = some .keySave := by rfl
  fits : ∀ c, (s.chan c).fits → (t.chan c).fits := by intro c h; exact h
  serials : s.serialsDistinct → t.serialsDistinct := by intro h; exact h
  notices : s.noticesFit → t.noticesFit := by intro h; exact h

theorem Within.refl (s : State) : Within s s where

theorem Within.trans {s t u : State} (h : Within s t) (k : Within t u) : Within s u where
  now := k.now.trans h.now
  pending := k.pending.trans h.pending
  freeCount := k.freeCount.trans h.freeCount
  pins := k.pins.trans h.pins
  phase := k.phase.trans h.phase
  cause := k.cause.trans h.cause
  ageLimit := k.ageLimit.trans h.ageLimit
  doubtThreshold := k.doubtThreshold.trans h.doubtThreshold
  refillThreshold := k.refillThreshold.trans h.refillThreshold
  meters := k.meters.trans h.meters
  meterQueue := k.meterQueue.trans h.meterQueue
  meterHand := k.meterHand.trans h.meterHand
  challenge := k.challenge.trans h.challenge
  store := k.store.trans h.store
  keySaves := k.keySaves.trans h.keySaves
  job := k.job.trans h.job
  pfLevel := k.pfLevel.trans h.pfLevel
  torn := k.torn.trans h.torn
  framer := k.framer.trans h.framer
  rate := k.rate.trans h.rate
  badFrames := k.badFrames.trans h.badFrames
  droppedRefusals := k.droppedRefusals.trans h.droppedRefusals
  ignoredEntries := k.ignoredEntries.trans h.ignoredEntries
  config c := (k.config c).trans (h.config c)
  host c := (k.host c).trans (h.host c)
  everServed c := (k.everServed c).trans (h.everServed c)
  keyWait := k.keyWait.trans h.keyWait
  fits c x := k.fits c (h.fits c x)
  serials x := k.serials (h.serials x)
  notices x := k.notices (h.notices x)

variable {s t : State}

/-! ## Bays and segments -/

theorem Within.setBay (h : Within s t) (b : BayId) (v : Bay) : Within s (t.setBay b v) := h.trans {}

theorem Within.modBay (h : Within s t) (b : BayId) (f : Bay → Bay) : Within s (t.modBay b f) := h.setBay b _

theorem Within.setSeg (h : Within s t) (g : Segment) (v : SegCtl) : Within s (t.setSeg g v) :=
  h.trans (by cases g <;> exact {})

theorem Within.modSeg (h : Within s t) (g : Segment) (f : SegCtl → SegCtl) : Within s (t.modSeg g f) := h.setSeg g _

/-! ## Notices (R157, R158) -/

theorem NoticeKey.rank_inj {x y : NoticeKey} (h : x.rank = y.rank) : x = y := by
  rcases x with _ | a | a | a | a | a | (a | a | _) | _ | _ <;>
    rcases y with _ | b | b | b | b | b | (b | b | _) | _ | _ <;>
    simp only [NoticeKey.rank] at h <;>
    first
    | rfl
    | (exfalso; omega)
    | (have e : a = b := Fin.ext (by omega)
       rw [e])

/-- A flag stands in the map after it is set, and no other is lost or added. -/
theorem mem_setFlag {k x : NoticeKey} : ∀ {l : List BacklogFlag},
    (∃ f ∈ setFlag k l, f.key = x) ↔ x = k ∨ ∃ f ∈ l, f.key = x
  | [] => by simp [setFlag, eq_comm]
  | y :: ys => by
    unfold setFlag
    split
    · next e => subst e; simp +contextual [eq_comm]
    · split
      · simp [eq_comm]
      · simp only [List.exists_mem_cons_iff, mem_setFlag (l := ys)]
        tauto

/-- Setting a flag keeps the map in drain order, with no flag twice. -/
theorem setFlag_sorted (k : NoticeKey) : ∀ {l : List BacklogFlag},
    l.Pairwise (fun x y => x.key.rank < y.key.rank) → (setFlag k l).Pairwise (fun x y => x.key.rank < y.key.rank)
  | [], _ => by simp [setFlag]
  | y :: ys, h => by
    rw [List.pairwise_cons] at h
    unfold setFlag
    split
    · exact List.pairwise_cons.mpr h
    · next ne =>
      split
      · next lt =>
        refine List.pairwise_cons.mpr ⟨fun z hz => ?_, List.pairwise_cons.mpr h⟩
        rcases List.mem_cons.mp hz with rfl | hz
        · exact lt
        · exact lt.trans (h.1 z hz)
      · next ge =>
        refine List.pairwise_cons.mpr ⟨fun z hz => ?_, setFlag_sorted k h.2⟩
        rcases mem_setFlag.mp ⟨z, hz, rfl⟩ with e | ⟨f, hf, e⟩
        · rw [e]
          exact lt_of_le_of_ne (not_lt.mp ge) (fun e => ne (NoticeKey.rank_inj e.symm))
        · rw [← e]
          exact h.1 f hf

theorem setFlag_ne_nil (k : NoticeKey) (l : List BacklogFlag) : setFlag k l ≠ [] := by
  intro h
  have := (mem_setFlag (l := l)).mpr (.inl (rfl : k = k))
  simp [h] at this

/-- A raised notice keeps the queue and the map within their bounds. -/
theorem State.raise_noticesFit (h : s.noticesFit) (n : Notice) : (s.raise n).noticesFit := by
  obtain ⟨h1, h2, h3⟩ := h
  unfold State.raise
  split
  · next lt =>
    have nil : s.link.backlog = [] := by
      by_contra ne
      have := h2 ne
      omega
    split
    · exact ⟨h1, h2, h3⟩
    · exact ⟨by simp; omega, fun ne => absurd nil ne, h3⟩
  · next ge => exact ⟨h1, fun _ => by simp at *; omega, setFlag_sorted _ h3⟩

theorem Within.raise (h : Within s t) (n : Notice) : Within s (t.raise n) :=
  h.trans
    { now := by simp, pending := by simp, freeCount := by simp, pins := by simp, phase := by simp, cause := by simp
      ageLimit := by simp, doubtThreshold := by simp, refillThreshold := by simp, meters := by simp
      meterQueue := by simp, meterHand := by simp, challenge := by simp, store := by simp, keySaves := by simp
      job := by simp, pfLevel := by simp, torn := by simp, framer := by simp, rate := by simp, badFrames := by simp
      droppedRefusals := by simp, ignoredEntries := by simp, config := by simp, host := by simp
      everServed := by simp, keyWait := by simp, fits := by simp
      serials := by simp [State.serialsDistinct]
      notices := fun k => t.raise_noticesFit k n }

@[simp] theorem BacklogFlag.noteEmptied_key (b : BayId) (f : BacklogFlag) : (f.noteEmptied b).key = f.key := by
  unfold BacklogFlag.noteEmptied
  split <;> rfl

@[simp] theorem Notice.noteEmptied_key (b : BayId) (n : Notice) : (n.noteEmptied b).key = n.key := by
  unfold Notice.noteEmptied
  split
  · split <;> rfl
  · rfl

/-- An emptied bay changes no place of the queue and no flag of the map. -/
theorem Within.noteEmptied (h : Within s t) (b : BayId) : Within s (t.noteEmptied b) :=
  h.trans
    { notices := by
        rintro ⟨h1, h2, h3⟩
        refine ⟨by simpa [State.noteEmptied] using h1, fun ne => ?_, ?_⟩
        · simpa [State.noteEmptied] using h2 (by simpa [State.noteEmptied] using ne)
        · simpa [State.noteEmptied, List.pairwise_map] using h3 }

theorem State.finishRequest_waiting_ne (w : t.link.waiting ≠ some .keySave) {r : Result} {fs : List Byte} {z : Bool} :
    (t.finishRequest r fs z).link.waiting ≠ some .keySave := by
  unfold State.finishRequest
  split
  · exact w
  · simp

theorem Within.finishRequest (h : Within s t) (r : Result) (fs : List Byte) (z : Bool)
    (w : t.link.waiting ≠ some .keySave) : Within s (t.finishRequest r fs z) :=
  h.trans
    { now := by simp, pending := by simp, freeCount := by simp, pins := by simp, phase := by simp, cause := by simp
      ageLimit := by simp, doubtThreshold := by simp, refillThreshold := by simp, meters := by simp
      meterQueue := by simp, meterHand := by simp, challenge := by simp, store := by simp, keySaves := by simp
      job := by simp, pfLevel := by simp, torn := by simp, framer := by simp, rate := by simp, badFrames := by simp
      droppedRefusals := by simp, ignoredEntries := by simp, config := by simp, host := by simp
      everServed := by simp, keyWait := ⟨fun k => absurd k (t.finishRequest_waiting_ne w), fun k => absurd k w⟩, fits := by simp
      serials := by simp [State.serialsDistinct]
      notices := by simp [State.noticesFit] }

theorem Within.waitFor (h : Within s t) (w : Waiting) (k : t.link.waiting ≠ some .keySave) (n : w ≠ .keySave) :
    Within s (t.waitFor w) :=
  h.trans { keyWait := ⟨fun x => absurd (Option.some.inj x) n, fun x => absurd x k⟩ }

/-- A change of what the executing request waits for. -/
theorem Within.waiting (h : Within s t) (w : Option Waiting) (k : t.link.waiting ≠ some .keySave)
    (n : w ≠ some .keySave) : Within s { t with link := { t.link with waiting := w } } :=
  h.trans { keyWait := ⟨fun x => absurd x n, fun x => absurd x k⟩ }

/-! ## Counters of a bay (R23, R166) -/

theorem Within.raiseIf (h : Within s t) (l : Bool) (sc : Scope) : Within s (t.raiseIf l sc) := by
  unfold State.raiseIf
  split
  · exact h.raise _
  · exact h

theorem Within.bumpNoReply (h : Within s t) (b : BayId) : Within s (t.bumpNoReply b) := (h.modBay _ _).raiseIf _ _
theorem Within.bumpMalformed (h : Within s t) (b : BayId) : Within s (t.bumpMalformed b) :=
  (h.modBay _ _).raiseIf _ _
theorem Within.bumpChallengeFail (h : Within s t) (b : BayId) : Within s (t.bumpChallengeFail b) :=
  (h.modBay _ _).raiseIf _ _
theorem Within.bumpWriteBacks (h : Within s t) (b : BayId) : Within s (t.bumpWriteBacks b) :=
  (h.modBay _ _).raiseIf _ _

/-! ## Channels (R101 to R107) -/

/-- A channel's record is replaced by one that keeps the configuration, the HOST cause and the ever-served flag, and
that fits if the old one does. -/
theorem Within.setChan (h : Within s t) (c : ChanId) (v : Channel) (h1 : v.config = (t.chan c).config)
    (h2 : v.causes.host = (t.chan c).causes.host) (h3 : v.everServed = (t.chan c).everServed)
    (h4 : (t.chan c).fits → v.fits) : Within s (t.setChan c v) := by
  have other : ∀ d, d ≠ c → (t.setChan c v).chan d = t.chan d := fun d ne => State.chan_setChan_ne t ne v
  refine h.trans { config := ?_, host := ?_, everServed := ?_, fits := ?_ } <;> intro d <;> by_cases e : d = c
  all_goals first | (subst e; simp only [State.chan_setChan]; assumption) | (rw [other d e])
  exact id

theorem Within.startWriteBack (h : Within s t) (b : BayId) : Within s (t.startWriteBack b) := by
  unfold State.startWriteBack
  split
  · exact h.modBay _ _
  · exact h

theorem Within.leaveActive (h : Within s t) (b : BayId) : Within s (t.leaveActive b) := by
  unfold State.leaveActive
  split
  · exact h.modBay _ _
  · exact h

theorem Within.readyToActive (h : Within s t) (b : BayId) : Within s (t.readyToActive b) := by
  unfold State.readyToActive
  split
  · exact h.modBay _ _
  · exact h

theorem Within.enterActive (h : Within s t) (b : BayId) : Within s (t.enterActive b) := by
  unfold State.enterActive
  split
  · exact h.readyToActive _
  · exact (h.readyToActive _).startWriteBack _

theorem Within.noteBay (h : Within s t) (b : BayId) (was : BayState) : Within s (t.noteBay b was) := by
  unfold State.noteBay
  split
  · exact h
  · exact h.raise _

theorem Within.leaveOld (h : Within s t) (c : ChanId) (target : Side) : Within s (t.leaveOld c target) := by
  unfold State.leaveOld
  split
  · exact h.leaveActive _
  · exact h

theorem Within.noteOld (h : Within s t) (u : State) (c : ChanId) (target : Side) :
    Within s (t.noteOld u c target) := by
  unfold State.noteOld
  split
  · exact h.noteBay _ _
  · exact h

/-- What a changeover does to bays leaves every channel's record alone. -/
theorem State.chan_enterActive_leaveOld (c : ChanId) (target : Side) (b : BayId) (d : ChanId) :
    ((s.leaveOld c target).enterActive b).chan d = s.chan d := by
  unfold State.enterActive State.startWriteBack State.readyToActive State.leaveOld State.leaveActive
  repeat' split
  all_goals simp

theorem Within.changeover (h : Within s t) (c : ChanId) (target : Side) : Within s (t.changeover c target) := by
  unfold State.changeover
  dsimp only
  refine Within.noteBay (Within.noteOld (Within.raise (Within.setChan
    ((h.leaveOld c target).enterActive (sideBay c target)) c _ ?_ ?_ ?_ ?_) _) _ _ _) _ _
  all_goals first | rw [State.chan_enterActive_leaveOld]; rfl | skip
  simp [Channel.change, Channel.fits]

theorem Within.enterStarved (h : Within s t) (c : ChanId) : Within s (t.enterStarved c) := by
  unfold State.enterStarved
  refine Within.raise (Within.setChan h c _ ?_ ?_ ?_ ?_) _
  all_goals first | rfl | simp [Channel.starve, Channel.fits]

theorem Within.choose (h : Within s t) (c : ChanId) : Within s (t.choose c) := by
  unfold State.choose
  dsimp only
  repeat' split
  all_goals first | exact h | exact h.changeover _ _ | exact h.enterStarved _

theorem Within.tellChannel (h : Within s t) (b : BayId) : Within s (t.tellChannel b) := h.choose _

theorem Within.clearFormer (h : Within s t) (b : BayId) : Within s (t.clearFormer b) := by
  unfold State.clearFormer
  dsimp only
  split
  · refine Within.raise (Within.setChan h _ _ ?_ ?_ ?_ ?_) _
    all_goals first | rfl | exact fun k => k
  · exact h

theorem Within.tellRemoved (h : Within s t) (b : BayId) : Within s (t.tellRemoved b) := (h.clearFormer _).choose _

/-! ## The transaction queues (R26, R34) -/

theorem Within.enqueue (h : Within s t) (b : BayId) (k : EntryClass) (op : BusOp) (x : Option LinkStep) :
    Within s (t.enqueue b k op x) := h.modSeg _ _
theorem Within.dequeue (h : Within s t) (b : BayId) (k : EntryClass) : Within s (t.dequeue b k) := h.modSeg _ _
theorem Within.modEntry (h : Within s t) (b : BayId) (k : EntryClass) (f : BusEntry → BusEntry) :
    Within s (t.modEntry b k f) := h.modSeg _ _
theorem Within.askSetCode (h : Within s t) (g : Segment) (x : Bool) : Within s (t.askSetCode g x) := h.modSeg _ _
theorem Within.askStepOne (h : Within s t) (b : BayId) : Within s (t.askStepOne b) :=
  (h.askSetCode _ _).modSeg _ _
theorem Within.noteOutcome (h : Within s t) (b : BayId) (o : BusOutcome) : Within s (t.noteOutcome b o) :=
  h.modBay _ _

/-! ## The seen table (R133 to R141) -/

/-- A change of the History Unit's table, sets and orders that keeps the serials distinct and what waits to be saved. -/
theorem Within.hist (h : Within s t) (x : HistoryUnit) (h1 : x.keySaves = t.hist.keySaves)
    (h2 : x.saving.map SaveInProgress.job = t.hist.saving.map SaveInProgress.job) (h3 : x.pfLevel = t.hist.pfLevel)
    (h4 : x.torn = t.hist.torn) (h5 : t.hist.serials.Nodup → x.serials.Nodup) :
    Within s { t with hist := x } :=
  h.trans { keySaves := h1, job := h2, pfLevel := h3, torn := h4, serials := h5 }

/-- A write of entries that keeps every serial keeps the table's serials. -/
theorem serials_map (l : List Entry) (f : Entry → Entry) (k : ∀ e, (f e).data.serial = e.data.serial) :
    (l.map f).map (fun e => e.data.serial) = l.map (fun e => e.data.serial) := by
  simp [Function.comp_def, k]

/-- Joining a set changes no saved field of an entry (R171, R174). -/
@[simp] theorem Entry.resave_data (n : Nat) (e : Entry) : (e.resave n).data = e.data := by
  unfold Entry.resave
  split <;> rfl

/-- Joining a set changes no pin. -/
@[simp] theorem Entry.resave_pin (n : Nat) (e : Entry) : (e.resave n).pin = e.pin := by
  unfold Entry.resave
  split <;> rfl

/-- An unpinned dirty entry that joins a set while it is saved stays dirty past that save (R171, R174). -/
theorem Entry.resave_saved (n : Nat) (e : Entry) (hp : e.pin = none) (hd : e.dirty.isSome) (hs : e.saving = true) :
    (e.resave n).saved.dirty.isSome := by
  simp [Entry.resave, Entry.saved, hp, hd, hs]

theorem Within.writeEntry (h : Within s t) (serial : Word64) (f : Entry → Entry)
    (k : ∀ e, (f e).data.serial = e.data.serial) : Within s (t.writeEntry serial f) := by
  refine h.hist _ rfl rfl rfl rfl (fun d => ?_)
  unfold HistoryUnit.serials at *
  rw [serials_map]
  · exact d
  · intro e
    split
    · exact k e
    · rfl

theorem Within.writeQuietly (h : Within s t) (serial : Word64) (f : Entry → Entry)
    (k : ∀ e, (f e).data.serial = e.data.serial) : Within s (t.writeQuietly serial f) := by
  refine h.hist _ rfl rfl rfl rfl (fun d => ?_)
  unfold HistoryUnit.serials at *
  rw [serials_map]
  · exact d
  · intro e
    split
    · exact k e
    · rfl

theorem Within.refresh (h : Within s t) (b : BayId) : Within s (t.refresh b) := by
  unfold State.refresh
  split
  · exact h.writeEntry _ _ (fun _ => rfl)
  · exact h

theorem Within.flushDone (h : Within s t) (serial : Word64) : Within s (t.flushDone serial) := by
  unfold State.flushDone
  split
  · next k => exact h.waiting _ (by simp [k]) (by simp)
  · exact h

theorem Within.pfDone (h : Within s t) (serial : Word64) : Within s (t.pfDone serial) :=
  h.hist _ rfl rfl rfl rfl id

theorem SaveInProgress.uncountPf_job (sv : SaveInProgress) (sl : SlotId) : (sv.uncountPf sl).job = sv.job := by
  unfold SaveInProgress.uncountPf
  repeat' split
  all_goals rfl

theorem Within.pfJoin (h : Within s t) (e : Entry) : Within s (t.pfJoin e) := by
  unfold State.pfJoin
  split
  · refine h.hist _ rfl ?_ rfl rfl (fun d => ?_)
    · cases t.hist.saving <;> simp [SaveInProgress.uncountPf_job]
    · unfold HistoryUnit.serials at *
      rw [serials_map]
      · exact d
      · intro x
        split <;> rfl
  · exact h

/-- Entries left out of the table keep its serials distinct. -/
theorem serials_filter (l : List Entry) (p : Entry → Bool) (d : (l.map (fun e => e.data.serial)).Nodup) :
    ((l.filter p).map (fun e => e.data.serial)).Nodup :=
  d.sublist (List.filter_sublist.map _)

theorem Within.dropEntry (h : Within s t) (serial : Word64) : Within s (t.dropEntry serial) := by
  unfold State.dropEntry
  refine Within.flushDone (Within.pfDone (Within.hist h _ ?_ ?_ ?_ ?_ ?_) _) _
  all_goals first | rfl | exact fun d => serials_filter _ _ d

theorem Within.raiseHistory (h : Within s t) (f : HistoryFields) : Within s (t.raiseHistory f) :=
  Within.raise (t := { t with hist := { t.hist with lastNotice := some f } })
    (Within.hist h _ rfl rfl rfl rfl id) _

theorem Within.loseInk (h : Within s t) (ev : HistoryEvent) (serial : Word64) (a b c : Nat) :
    Within s (t.loseInk ev serial a b c) := by
  unfold State.loseInk
  refine Within.raiseHistory (Within.hist h _ ?_ ?_ ?_ ?_ ?_) _
  all_goals first | rfl | exact id

theorem Within.evict (h : Within s t) (e : Entry) : Within s (t.evict e) := by
  unfold State.evict
  dsimp only
  split
  · exact h.dropEntry _
  · exact (h.dropEntry _).loseInk _ _ _ _ _

theorem renumber_serials (n : Nat) : ∀ l : List Entry,
    (renumber n l).map (fun e => e.data.serial) = l.map (fun e => e.data.serial)
  | [] => rfl
  | e :: es => by simp [renumber, Entry.touch, renumber_serials n es]

theorem Within.readyStamp (h : Within s t) : Within s t.readyStamp := by
  unfold State.readyStamp
  split
  · exact h
  · refine h.hist _ rfl rfl rfl rfl (fun d => ?_)
    unfold HistoryUnit.serials at *
    rw [renumber_serials]
    exact d

/-! ## Creating, taking and releasing entries (R136, R140) -/

/-- No entry of a serial stands in the table when the lookup finds none. -/
theorem entryOf?_none (serial : Word64) :
    t.entryOf? serial = none ↔ ∀ e ∈ t.hist.table, e.data.serial ≠ serial := by
  simp [State.entryOf?]

/-- A new entry whose serial is not in the table keeps the serials distinct. -/
theorem Within.pushEntry (h : Within s t) (mk : Nat → Nat → Entry) (serial : Word64)
    (k : ∀ a b, (mk a b).data.serial = serial) (n : ∀ e ∈ t.hist.table, e.data.serial ≠ serial) :
    Within s (t.pushEntry mk) := by
  refine h.hist _ rfl rfl rfl rfl (fun d => ?_)
  unfold HistoryUnit.serials at *
  simp only [List.map_cons, k, List.nodup_cons]
  exact ⟨by simpa using n, d⟩

/-- An eviction only takes entries away. -/
theorem State.evict_table (e : Entry) :
    (t.evict e).hist.table = t.hist.table.filter (fun x => x.data.serial != e.data.serial) := by
  unfold State.evict State.loseInk State.raiseHistory State.dropEntry State.flushDone State.pfDone
  dsimp only
  repeat' split
  all_goals simp

/-- A renumbering keeps every serial in its place. -/
theorem State.readyStamp_serials : t.readyStamp.hist.serials = t.hist.serials := by
  unfold State.readyStamp
  split
  · rfl
  · exact renumber_serials _ _

theorem State.readyStamp_absent {serial : Word64} (n : ∀ e ∈ t.hist.table, e.data.serial ≠ serial) :
    ∀ e ∈ t.readyStamp.hist.table, e.data.serial ≠ serial := by
  intro e he eq
  have m : serial ∈ t.readyStamp.hist.serials := eq ▸ List.mem_map_of_mem he
  rw [State.readyStamp_serials] at m
  obtain ⟨x, hx, ex⟩ := List.mem_map.mp m
  exact n x hx ex

theorem Within.createEntry (h : Within s t) {i : Identity} {b : BayId} {pin : Option BayId} {c o : Nat} {u : State}
    (n : t.entryOf? i.serial = none) (k : t.createEntry i b pin c o = some u) : Within s u := by
  have n0 := (entryOf?_none i.serial).mp n
  unfold State.createEntry at k
  split at k
  · cases k
    exact h.readyStamp.pushEntry _ i.serial (fun _ _ => rfl) (State.readyStamp_absent n0)
  · split at k
    · next e _ =>
      cases k
      refine (h.evict e).readyStamp.pushEntry _ i.serial (fun _ _ => rfl) (State.readyStamp_absent ?_)
      intro x hx
      rw [State.evict_table] at hx
      exact n0 x (List.mem_of_mem_filter hx)
    · cases k

theorem Within.takeEntry (h : Within s t) (serial : Word64) (b : BayId) : Within s (t.takeEntry serial b) := by
  unfold State.takeEntry
  dsimp only
  split
  · exact h.readyStamp
  · next e he =>
    refine Within.hist h.readyStamp _ rfl rfl rfl rfl (fun d => ?_)
    have es : e.data.serial = serial := by
      have := List.find?_some he
      simpa using this
    unfold HistoryUnit.serials at *
    simp only [List.map_cons, List.nodup_cons]
    refine ⟨?_, serials_filter _ _ d⟩
    simp [Entry.touch, es]

theorem Within.carryOrphan (h : Within s t) (b : BayId) (i : Identity) (n : Nat) : Within s (t.carryOrphan b i n) := by
  unfold State.carryOrphan
  split
  · exact h
  · split
    · split
      · exact h.loseInk _ _ _ _ _
      · exact h.writeEntry _ _ (fun _ => rfl)
    · next he =>
      split
      · next hc => exact h.createEntry he hc
      · exact h.loseInk _ _ _ _ _

theorem Within.releaseCartridge (h : Within s t) (b : BayId) : Within s (t.releaseCartridge b) := by
  unfold State.releaseCartridge
  split
  · exact h
  · split
    · exact (h.refresh b).writeEntry _ _ (fun _ => rfl)
    · exact h.carryOrphan _ _ _

end Sys2Proof.Machine
end

