-- ==== Sys2Proof/Laws/WithinBay.lean ====
section
/-! SUPPORT. What the bay rules can do (BayWork, Refill, LinkUp): one `Within` lemma per operation. -/

namespace Sys2Proof.Machine

variable {s t : State}

/-! ## BayWork -/

theorem Within.serviceEnd (h : Within s t) (b : BayId) (o : BusOutcome) (d : List Byte) :
    Within s (t.serviceEnd b o d) := by
  unfold State.serviceEnd
  split
  · next k =>
    have w : t.link.waiting ≠ some .keySave := by simp [k]
    repeat' split
    all_goals first | exact h | exact h.finishRequest _ _ _ w
  · next k =>
    have w : t.link.waiting ≠ some .keySave := by simp [k]
    repeat' split
    all_goals first | exact h | exact h.finishRequest _ _ _ w | exact (h.waiting _ w (by simp)).enqueue _ _ _ _
  · exact h

theorem Within.clearLostMeter (h : Within s t) (b : BayId) : Within s (t.clearLostMeter b) := by
  unfold State.clearLostMeter
  dsimp only
  repeat' split
  all_goals
    first
    | exact h
    | exact (h.dequeue _ _).noteOutcome _ _
    | exact ((h.dequeue _ _).noteOutcome _ _).modBay _ _
    | exact h.dequeue _ _

theorem Within.clearLostService (h : Within s t) (b : BayId) : Within s (t.clearLostService b) := by
  unfold State.clearLostService
  repeat' split
  all_goals first | exact h | exact ((h.dequeue _ _).noteOutcome _ _).serviceEnd _ _ _

theorem Within.clearLostSetup (h : Within s t) (b : BayId) : Within s (t.clearLostSetup b) := by
  unfold State.clearLostSetup
  dsimp only
  repeat' split
  all_goals
    first
    | exact h
    | exact ((h.dequeue _ _).noteOutcome _ _).modBay _ _
    | exact (h.dequeue _ _).noteOutcome _ _

theorem Within.clearLostWork (h : Within s t) (b : BayId) : Within s (t.clearLostWork b) :=
  (((h.clearLostMeter b).clearLostService b).clearLostSetup b).modBay _ _

theorem Within.goLost (h : Within s t) (b : BayId) : Within s (t.goLost b) :=
  (((h.modBay _ _).clearLostWork b).raise _).tellChannel _

theorem Within.failRefusedRelink (h : Within s t) (b : BayId) : Within s (t.failRefusedRelink b) := h.modBay _ _

theorem Within.linkFail (h : Within s t) (b : BayId) : Within s (t.linkFail b) := by
  unfold State.linkFail
  dsimp only
  repeat' split
  all_goals first | exact h.modBay _ _ | exact (h.modBay _ _).failRefusedRelink _ | exact (h.modBay _ _).goLost _

theorem Within.handleNoReply (h : Within s t) (b : BayId) : Within s (t.handleNoReply b) := by
  unfold State.handleNoReply
  split
  all_goals first | exact h.goLost _ | exact h.modBay _ _ | exact h

theorem Within.writeBackTrigger (h : Within s t) (b : BayId) (x : Bool) : Within s (t.writeBackTrigger b x) := by
  unfold State.writeBackTrigger
  split
  · exact h.enqueue _ _ _ _
  · exact h

theorem Within.withdrawMeter (h : Within s t) (b : BayId) : Within s (t.withdrawMeter b) := by
  unfold State.withdrawMeter
  dsimp only
  repeat' split
  all_goals first | exact h | exact h.dequeue _ _ | exact (h.dequeue _ _).startWriteBack _

theorem Within.withdrawMark (h : Within s t) (b : BayId) : Within s (t.withdrawMark b) := by
  unfold State.withdrawMark
  repeat' split
  all_goals first | exact h | exact h.dequeue _ _

theorem Within.leaveGenuine (h : Within s t) (b : BayId) : Within s (t.leaveGenuine b) :=
  ((h.withdrawMeter b).withdrawMark b).modBay _ _

theorem Within.setAuth (h : Within s t) (b : BayId) (a : AuthState) : Within s (t.setAuth b a) := by
  unfold State.setAuth
  dsimp only
  split
  · exact (h.modBay _ _).leaveGenuine _
  · exact h.modBay _ _

theorem Within.beginExchange (h : Within s t) (b : BayId) (x : Exchange3) (y : Option LinkStep) :
    Within s (t.beginExchange b x y) := (h.modBay _ _).enqueue _ _ _ _

theorem Within.askRecheck (h : Within s t) (b : BayId) : Within s (t.askRecheck b) := by
  unfold State.askRecheck
  split
  · exact h.beginExchange _ _ _
  · exact h.modBay _ _

theorem Within.requestRecheck (h : Within s t) (b : BayId) : Within s (t.requestRecheck b) := by
  unfold State.requestRecheck
  dsimp only
  repeat' split
  all_goals first | exact h | exact h.modBay _ _ | exact h.askRecheck _

theorem Within.settleOwed (h : Within s t) (b : BayId) : Within s (t.settleOwed b) := by
  unfold State.settleOwed
  dsimp only
  split
  · exact (h.modBay _ _).requestRecheck _
  · exact h

theorem Within.askMark (h : Within s t) (b : BayId) : Within s (t.askMark b) := by
  unfold State.askMark
  split
  · exact h.enqueue _ _ _ _
  · exact h.modBay _ _

theorem Within.releaseSetup (h : Within s t) (b : BayId) : Within s (t.releaseSetup b) := by
  unfold State.releaseSetup
  dsimp only
  repeat' split
  all_goals
    first
    | exact h
    | exact h.enqueue _ _ _ _
    | exact (h.modBay _ _).beginExchange _ _ _
    | exact (h.modBay _ _).enqueue _ _ _ _
    | exact h.modBay _ _

theorem Within.startLinkUp (h : Within s t) (b : BayId) : Within s (t.startLinkUp b) := (h.modBay _ _).askStepOne _

theorem Within.startFirstLink (h : Within s t) (b : BayId) : Within s (t.startFirstLink b) :=
  ((h.modBay _ _).raise _).startLinkUp _

/-! ## Refill: the report to the Channel Unit and the scoring that a lifted refusal runs are parameters -/

/-- An operation on a bay that stays within what the bay rules do. -/
def Stays (f : State → BayId → State) : Prop := ∀ {s t : State}, Within s t → ∀ b, Within s (f t b)

theorem Stays.tellChannel : Stays State.tellChannel := fun h b => Within.tellChannel h b

theorem Stays.quiet : Stays (fun t _ => t) := fun h _ => h

theorem Within.refuseBay (tell : State → BayId → State) (l : Stays tell) (h : Within s t) (b : BayId)
    (r : RefusalReason) : Within s (t.refuseBay tell b r) := l ((h.modBay _ _).raise _) _

theorem Within.spendBay (h : Within s t) (b : BayId) : Within s (t.spendBay b) := by
  unfold State.spendBay
  dsimp only
  split
  · exact (h.modBay _ _).raise _
  · exact h.modBay _ _

theorem Within.returnToLost (h : Within s t) (b : BayId) : Within s (t.returnToLost b) :=
  ((h.modBay _ _).clearLostWork _).releaseSetup _

theorem Within.liftRefusal (tell pr : State → BayId → State) (l : Stays tell) (k : Stays pr) (h : Within s t)
    (b : BayId) : Within s (t.liftRefusal tell pr b) := by
  unfold State.liftRefusal
  dsimp only
  refine l (Within.raise ?_ _) _
  repeat' split
  all_goals
    first
    | exact h.spendBay _
    | exact k (h.returnToLost _) _
    | exact h.returnToLost _
    | exact k (h.modBay _ _) _
    | exact h.modBay _ _

theorem Within.policyTestWith (tell pr : State → BayId → State) (l : Stays tell) (k : Stays pr) (h : Within s t)
    (b : BayId) : Within s (t.policyTestWith tell pr b) := by
  unfold State.policyTestWith
  split
  · exact h
  · extract_lets v
    split
    · split
      · split
        · exact h.refuseBay tell l _ _
        · exact h
      · exact h
    · split
      · split
        · exact h.refuseBay tell l _ _
        · exact h
      · exact h
    · split
      · split
        · exact h.refuseBay tell l _ _
        · exact h
      · exact h
    · split
      · split
        · exact h.refuseBay tell l _ _
        · exact h
      · exact h
    · split
      · split
        · split
          · exact h
          · exact l ((h.modBay _ _).raise _) _
        · exact Within.liftRefusal tell pr l k h _
      · exact h
    · exact h

theorem Within.evaluateWith (tell pt : State → BayId → State) (l : Stays tell) (k : Stays pt) (h : Within s t)
    (b : BayId) : Within s (t.evaluateWith tell pt b) := by
  unfold State.evaluateWith
  split
  · exact h
  · extract_lets new s1 s2 s3
    split
    · have w : Within s s3 := l (k (((h.writeEntry _ (Entry.withData _) (fun _ => rfl)).modBay b _).refresh b) b) b
      split
      · exact w.askMark _
      · exact w
    · exact h

theorem Within.scoreWith (tell pt : State → BayId → State) (l : Stays tell) (k : Stays pt) (h : Within s t)
    (b : BayId) (kind : EvidenceKind) (p n : Nat) : Within s (t.scoreWith tell pt b kind p n) := by
  unfold State.scoreWith
  dsimp only
  split
  · exact h
  · exact (Within.evaluateWith tell pt l k ((h.writeEntry _ (Entry.withData _) (fun _ => rfl)).modBay b _) b).raise _

theorem Stays.probeReturnWith {tell : State → BayId → State} (l : Stays tell) : Stays (State.probeReturnWith tell) :=
  fun h b => Within.scoreWith tell _ l (fun w b => Within.policyTestWith tell _ l Stays.quiet w b) (h.modBay b _) b _ _ _

theorem Within.probeReturn (h : Within s t) (b : BayId) : Within s (t.probeReturn b) :=
  Stays.probeReturnWith Stays.tellChannel h b

theorem Within.policyTest (h : Within s t) (b : BayId) : Within s (t.policyTest b) :=
  Within.policyTestWith _ _ Stays.tellChannel (Stays.probeReturnWith Stays.tellChannel) h b

theorem Within.policyTestQuietly (h : Within s t) (b : BayId) : Within s (t.policyTestQuietly b) :=
  Within.policyTestWith _ _ Stays.quiet (Stays.probeReturnWith Stays.quiet) h b

theorem Within.score (h : Within s t) (b : BayId) (kind : EvidenceKind) (p n : Nat) :
    Within s (t.score b kind p n) :=
  Within.scoreWith _ _ Stays.tellChannel (fun w b => w.policyTest b) h b kind p n

theorem Within.evaluate (h : Within s t) (b : BayId) : Within s (t.evaluate b) :=
  Within.evaluateWith _ _ Stays.tellChannel (fun w b => w.policyTest b) h b

theorem Within.scoreReleased (h : Within s t) (b : BayId) (serial : Word64) :
    Within s (t.scoreReleased b serial) := by
  unfold State.scoreReleased
  split
  · exact h
  · extract_lets score new s1 s2
    have w : Within s s1 := h.writeEntry _ _ (fun _ => rfl)
    refine Within.raise ?_ _
    unfold s2
    split
    · exact w.modBay _ _
    · exact w

theorem Within.lowTest (h : Within s t) (b : BayId) : Within s (t.lowTest b) := by
  unfold State.lowTest
  dsimp only
  repeat' split
  all_goals first | exact h | exact (h.modBay _ _).raise _

theorem Within.countedOutTest (h : Within s t) (b : BayId) : Within s (t.countedOutTest b) := by
  unfold State.countedOutTest
  dsimp only
  repeat' split
  all_goals
    first
    | exact h
    | exact ((h.modBay _ _).raise _).writeQuietly _ _ (fun _ => rfl)
    | exact (h.modBay _ _).raise _

theorem Within.levelTests (h : Within s t) (b : BayId) : Within s (t.levelTests b) := by
  unfold State.levelTests
  split
  · exact (h.lowTest _).countedOutTest _
  · exact h

theorem Within.overdrawExam (h : Within s t) (b : BayId) : Within s (t.overdrawExam b) := by
  unfold State.overdrawExam
  dsimp only
  split
  · exact (h.modBay _ _).score _ _ _ _
  · exact h

theorem Within.inkAbsent (h : Within s t) (b : BayId) : Within s (t.inkAbsent b) :=
  ((h.spendBay b).tellChannel b).raise _

theorem Within.inkReturns (h : Within s t) (b : BayId) : Within s (t.inkReturns b) := by
  unfold State.inkReturns
  dsimp only
  refine Within.raise (Within.tellChannel ?_ _) _
  repeat' split
  all_goals
    first
    | exact (h.returnToLost _).probeReturn _
    | exact h.returnToLost _
    | exact (h.modBay _ _).probeReturn _
    | exact h.modBay _ _

/-! ## LinkUp -/

theorem Within.enterService (h : Within s t) (b : BayId) (st : BayState) : Within s (t.enterService b st) := by
  unfold State.enterService
  dsimp only
  refine Within.writeBackTrigger ?_ _ _
  have w := ((h.modBay b (fun v => v.serve st)).startWriteBack b).levelTests b
  split
  · exact w.probeReturn _
  · exact w

theorem Within.completeLink (h : Within s t) (b : BayId) : Within s (t.completeLink b) := by
  unfold State.completeLink
  split
  · exact h
  · extract_lets s1 v s2
    have w : Within s s1 := h.modBay _ _
    have w2 : Within s s2 := by
      unfold s2
      split
      · exact ((w.modBay _ _).levelTests _).writeBackTrigger _ _
      · split
        · exact ((w.spendBay _).levelTests _).writeBackTrigger _ _
        · exact w.enterService _ _
    exact (w2.tellChannel _).raise _

theorem Within.beginStep5 (h : Within s t) (b : BayId) : Within s (t.beginStep5 b) := by
  unfold State.beginStep5
  extract_lets v clear
  split
  · exact (h.modBay _ _).enqueue _ _ _ _
  · exact h.completeLink _

theorem Within.settleEvidence (h : Within s t) (b : BayId) (c e d : Nat) : Within s (t.settleEvidence b c e d) := by
  unfold State.settleEvidence
  split
  all_goals first | exact h.score _ _ _ _ | exact h

theorem Within.setMarked (h : Within s t) (serial : Word64) : Within s (t.setMarked serial) :=
  h.writeEntry _ _ (fun _ => rfl)

theorem Within.examineMark (h : Within s t) (b : BayId) (o : Observed) (v : Verdict) :
    Within s (t.examineMark b o v) := by
  unfold State.examineMark
  repeat' split
  all_goals first | exact h | exact h.setMarked _ | exact (h.setMarked _).score _ _ _ _

theorem Within.releaseMeter (h : Within s t) (b : BayId) : Within s (t.releaseMeter b) := by
  unfold State.releaseMeter
  repeat' split
  all_goals first | exact h | exact h.modEntry _ _ _ | exact h.dequeue _ _

theorem Within.refuseDuplicate (h : Within s t) (b : BayId) : Within s (t.refuseDuplicate b) := by
  unfold State.refuseDuplicate
  dsimp only
  refine Within.tellChannel (Within.raise (Within.modBay ?_ _ _) _) _
  split
  · exact ((h.releaseCartridge _).releaseMeter _).modBay _ _
  · exact h

theorem Within.lookup (h : Within s t) {b : BayId} {i : Identity} {o : Observed} {u : State}
    (k : t.lookup b i o = some u) : Within s u := by
  unfold State.lookup at k
  split at k
  · cases k
    split
    · exact Within.pfJoin ((h.takeEntry _ _).modBay _ _) _
    · exact (h.takeEntry _ _).modBay _ _
  · next he =>
    split at k
    · cases k
    · next hc =>
      cases k
      split
      · exact Within.pfJoin ((h.createEntry he hc).modBay _ _) _
      · exact (h.createEntry he hc).modBay _ _

theorem Within.reconcile (h : Within s t) (b : BayId) (o : Observed) : Within s (t.reconcile b o) := by
  unfold State.reconcile
  dsimp only
  exact (((((h.modBay _ _).settleEvidence _ _ _ _).examineMark _ _ _).modBay _ _).refresh _).beginStep5 _

theorem Within.backToStep2 (h : Within s t) (b : BayId) : Within s (t.backToStep2 b) :=
  (h.modBay _ _).enqueue _ _ _ _

theorem Within.leaveStep4 (h : Within s t) (b : BayId) : Within s (t.leaveStep4 b) := (h.modBay _ _).backToStep2 _

theorem Within.verdictTaken (h : Within s t) (b : BayId) (v : Verdict) : Within s (t.verdictTaken b v) := by
  unfold State.verdictTaken
  split
  · exact h
  · exact h.policyTest _

theorem Within.tryStep4 (h : Within s t) (b : BayId) : Within s (t.tryStep4 b) := by
  unfold State.tryStep4
  dsimp only
  split
  · split
    · exact h.refuseDuplicate _
    · split
      · exact h
      · split
        · exact h.leaveStep4 _
        · split
          · exact h.reconcile _ _
          · split
            · exact h
            · next hl => exact (((h.lookup hl).verdictTaken _ _).evaluate _).reconcile _ _
  · exact h

theorem Within.beginStep4 (h : Within s t) (b : BayId) : Within s (t.beginStep4 b) := (h.modBay _ _).tryStep4 _

/-- What holds after each item of a list holds after all of them. -/
theorem Within.foldl {α : Type} (f : State → α → State) (k : ∀ {s t : State}, Within s t → ∀ a, Within s (f t a)) :
    ∀ {t : State} (l : List α), Within s t → Within s (l.foldl f t)
  | _, [], h => h
  | _, a :: l, h => Within.foldl f k l (k h a)

theorem Within.retryBayStep4 (h : Within s t) (b : BayId) : Within s (t.retryBayStep4 b) := by
  unfold State.retryBayStep4
  split
  · exact h.tryStep4 _
  · exact h

theorem Within.retryAfterAdvance (u : State) (h : Within s t) (b : BayId) : Within s (u.retryAfterAdvance t b) := by
  unfold State.retryAfterAdvance
  split
  · exact h.retryBayStep4 _
  · exact h

theorem Within.retryStep4 (h : Within s t) : Within s t.retryStep4 :=
  Within.foldl _ (fun h b => h.retryBayStep4 b) _ h

theorem Within.linkAuth (h : Within s t) (b : BayId) (a : AuthState) : Within s (t.linkAuth b a) :=
  (h.setAuth _ _).policyTest _

theorem Within.unverifiable (h : Within s t) (b : BayId) : Within s (t.unverifiable b) :=
  ((h.modBay _ _).linkAuth _ _).beginStep4 _

theorem Within.beginStep3 (h : Within s t) (b : BayId) : Within s (t.beginStep3 b) := by
  unfold State.beginStep3
  dsimp only
  repeat' split
  all_goals
    first
    | exact (h.modBay _ _).unverifiable _
    | exact (h.modBay _ _).enqueue _ _ _ _
    | exact ((h.modBay _ _).linkAuth _ _).beginExchange _ _ _

theorem Within.endLinkExchange (h : Within s t) (b : BayId) (a : AuthState) : Within s (t.endLinkExchange b a) :=
  ((h.modBay _ _).linkAuth _ _).beginStep4 _

theorem Within.exchangeCartridge (h : Within s t) (b : BayId) (i : Identity) : Within s (t.exchangeCartridge b i) :=
  ((((h.releaseCartridge _).releaseMeter _).modBay _ _).raise _).tellChannel _

theorem Within.identTaken (h : Within s t) (b : BayId) (i : Identity) (o : Observed) :
    Within s (t.identTaken b i o) := by
  unfold State.identTaken
  extract_lets s1
  have w : Within s s1 := h.modBay _ _
  split
  · exact w.refuseDuplicate _
  · split
    · exact (w.modBay _ _).beginStep3 _
    · exact (w.modBay _ _).beginStep3 _
    · split
      · exact (w.modBay _ _).beginStep3 _
      · exact (w.exchangeCartridge _ _).beginStep3 _

end Sys2Proof.Machine
end

