-- ==== Sys2Proof/Laws/WithinBus.lean ====
section
/-! SUPPORT. What transactions, removals, the transmitter and the end of a command can do: one `Within` lemma per
operation (Transactions, Notices, Power). -/

namespace Sys2Proof.Machine

variable {s t : State}

/-! ## Responses and reports (R42, R59, R65, R85) -/

theorem Within.secondChallenge (h : Within s t) (b : BayId) (x : Option LinkStep) :
    Within s (t.secondChallenge b x) := (h.modBay _ _).enqueue _ _ _ _

theorem Within.linkResponse (h : Within s t) (b : BayId) (n : Nonce) (d : List Byte) :
    Within s (t.linkResponse b n d) := by
  unfold State.linkResponse
  extract_lets v s1
  have w : Within s s1 := h.bumpChallengeFail _
  split
  · exact h.backToStep2 _
  · split
    · exact h.endLinkExchange _ _
    · split
      · exact w.secondChallenge _ _
      · exact w.endLinkExchange _ _

theorem Within.reportLinkChallenge (h : Within s t) (b : BayId) (o : BusOutcome) (n : Nonce) (d : List Byte) :
    Within s (t.reportLinkChallenge b o n d) := by
  unfold State.reportLinkChallenge
  split
  · split
    · exact h.linkResponse _ _ _
    · exact h.linkFail _
  · exact h

theorem Within.recheckMismatch (h : Within s t) (b : BayId) : Within s (t.recheckMismatch b) := by
  unfold State.recheckMismatch
  extract_lets s1
  have w : Within s s1 := h.bumpChallengeFail _
  split
  · exact w.secondChallenge _ _
  · exact ((((w.modBay _ _).setAuth _ _).raise _).policyTest _).tellChannel _

theorem Within.reportRecheck (h : Within s t) (b : BayId) (o : BusOutcome) (n : Nonce) (d : List Byte) :
    Within s (t.reportRecheck b o n d) := by
  unfold State.reportRecheck
  extract_lets v
  split
  · split
    · split
      · exact h.modBay _ _
      · split
        · exact h.modBay _ _
        · exact h.recheckMismatch _
    · exact h.recheckMismatch _
    · exact h.recheckMismatch _
    · exact (h.modBay _ _).handleNoReply _
  · exact h

theorem Within.reportIdent (h : Within s t) (b : BayId) (o : BusOutcome) (d : List Byte) :
    Within s (t.reportIdent b o d) := by
  unfold State.reportIdent
  split
  · split
    · exact h.identTaken _ _ _
    · exact h.linkFail _
  · exact h

theorem Within.markPinned (h : Within s t) (b : BayId) : Within s (t.markPinned b) := by
  unfold State.markPinned
  split
  · exact h.setMarked _
  · exact h

theorem Within.reportMark (h : Within s t) (b : BayId) (x : Option LinkStep) (o : BusOutcome) :
    Within s (t.reportMark b x o) := by
  unfold State.reportMark
  extract_lets s1
  have w : Within s s1 := by
    unfold s1
    split
    · exact h.markPinned _
    · exact h
  split
  · split
    · split
      · exact w.linkFail _
      · exact w.completeLink _
    · exact w
  · split
    · exact w.handleNoReply _
    · exact w

theorem Within.tagEvidence (h : Within s t) (b : BayId) (r : Bool) (w : Drawn) : Within s (t.tagEvidence b r w) := by
  unfold State.tagEvidence
  split
  · split
    · exact h.scoreReleased _ _
    · exact h
  · exact h.score _ _ _ _

theorem Within.advanceSettle (h : Within s t) (b : BayId) (d c : Nat) : Within s (t.advanceSettle b d c) := by
  unfold State.advanceSettle
  extract_lets v e s1 s2 s3
  have w : Within s s2 := (h.modBay _ _).settleEvidence _ _ _ _
  have w3 : Within s s3 := by
    unfold s3
    split
    · exact w.overdrawExam _
    · exact w
  exact (w3.levelTests _).writeBackTrigger _ _

theorem Within.countWriteBack (h : Within s t) (b : BayId) : Within s (t.countWriteBack b) := by
  unfold State.countWriteBack
  extract_lets s1
  have w : Within s s1 := h.modBay _ _
  split
  · split
    · exact w.requestRecheck _
    · exact w
  · exact w

theorem Within.advanceOk (h : Within s t) (b : BayId) (r : Bool) (w : Drawn) (c : BitVec 40) (tag : Word64) :
    Within s (t.advanceOk b r w c tag) := by
  unfold State.advanceOk
  extract_lets good s1 s2 s3
  have w1 : Within s s1 := by
    unfold s1
    split
    · exact h
    · exact h.advanceSettle _ _ _
  have w2 : Within s s2 := by
    unfold s2
    split
    · exact w1
    · exact w1.tagEvidence _ _ _
  have w3 : Within s s3 := by
    unfold s3
    split
    · exact w2.requestRecheck _
    · exact w2
  exact w3.countWriteBack _

theorem Within.advanceUndone (h : Within s t) (b : BayId) (r u : Bool) : Within s (t.advanceUndone b r u) := by
  unfold State.advanceUndone
  split
  · exact h
  · exact h.modBay _ _

theorem Within.afterAdvance (h : Within s t) (b : BayId) : Within s (t.afterAdvance b) := by
  unfold State.afterAdvance
  extract_lets s1 s2
  have w1 : Within s s1 := by
    unfold s1
    split
    · exact h
    · exact h.startWriteBack _
  exact Within.retryBayStep4 ((w1.writeBackTrigger _ _).settleOwed _) _

theorem Within.reportAdvance (h : Within s t) (e : BusEntry) (o : BusOutcome) (d : List Byte) :
    Within s (t.reportAdvance e o d) := by
  unfold State.reportAdvance
  extract_lets b s1
  have w : Within s s1 := by
    unfold s1
    split
    · exact h.advanceOk _ _ _ _ _
    · exact h.advanceUndone _ _ _
    · exact h.advanceUndone _ _ _
    · exact (h.advanceUndone _ _ _).handleNoReply _
    · exact h.advanceUndone _ _ _
  exact w.afterAdvance _

theorem Within.reportService (h : Within s t) (b : BayId) (o : BusOutcome) (d : List Byte) :
    Within s (t.reportService b o d) := by
  unfold State.reportService
  extract_lets s1
  have w : Within s s1 := h.serviceEnd _ _ _
  split
  · exact w.handleNoReply _
  · exact w

theorem Within.report (h : Within s t) (e : BusEntry) (o : BusOutcome) (n : Nonce) (d : List Byte) :
    Within s (t.report e o n d) := by
  unfold State.report
  split
  · exact h.reportIdent _ _ _
  · split
    · exact h.reportLinkChallenge _ _ _ _
    · exact h.reportRecheck _ _ _ _
  · exact h.reportMark _ _ _
  · exact h.reportAdvance _ _ _
  · exact h.reportService _ _ _
  · exact h.reportService _ _ _

theorem Within.endTransaction (h : Within s t) (e : BusEntry) (o l : BusOutcome) (n : Nonce) (d : List Byte) :
    Within s (t.endTransaction e o l n d) := by
  unfold State.endTransaction
  extract_lets s1 s2 s3
  have w1 : Within s s1 := (h.dequeue _ _).noteOutcome _ _
  have w2 : Within s s2 := by
    unfold s2
    split
    · exact w1.bumpWriteBacks _
    · exact w1
  have w3 : Within s s3 := w2.report _ _ _ _
  split
  · exact w3.releaseSetup _
  · exact w3

/-! ## Attempts (R29, R38 to R41) -/

theorem Within.countFailure (h : Within s t) (b : BayId) (k : FailKind) : Within s (t.countFailure b k) := by
  cases k
  · exact h.bumpNoReply _
  · exact h.bumpMalformed _
  · exact h

theorem Within.failedAttempt (h : Within s t) (e : BusEntry) (p : Bool) (k : FailKind) :
    Within s (t.failedAttempt e p k) := by
  unfold State.failedAttempt
  extract_lets s1 s2
  have w : Within s s1 := h.countFailure _ _
  have w2 : Within s s2 := w.modEntry _ _ _
  split
  · exact w.endTransaction _ _ _ _ _
  · split
    · exact w.endTransaction _ _ _ _ _
    · split
      · exact w2.askSetCode _ _
      · exact w2

theorem Within.accepted (h : Within s t) (e : BusEntry) : Within s (t.accepted e) := by
  unfold State.accepted
  extract_lets s1
  have w : Within s s1 := h.modEntry _ _ _
  split
  · exact w.modBay _ _
  · exact w

theorem Within.done (h : Within s t) (e : BusEntry) (n : Nonce) (d : List Byte) : Within s (t.done e n d) := by
  unfold State.done
  split
  · exact h.failedAttempt _ _ _
  · exact h.endTransaction _ _ _ _ _

theorem Within.actOn (h : Within s t) (e : BusEntry) (p : Bool) (n : Nonce) (a : Attempt) :
    Within s (t.actOn e p n a) := by
  unfold State.actOn
  split
  · exact h.done _ _ _
  · exact h.accepted _
  · exact h.endTransaction _ _ _ _ _
  · exact h.endTransaction _ _ _ _ _
  · split
    · split
      · exact h.endTransaction _ _ _ _ _
      · exact h.modEntry _ _ _
    · exact h.failedAttempt _ _ _
  · exact h.failedAttempt _ _ _

theorem Within.endExchange (h : Within s t) (g : Segment) : Within s (t.endExchange g) := h.modSeg _ _

theorem Within.takeReply (h : Within s t) (g : Segment) (x : Exchange) (d : List Byte) :
    Within s (t.takeReply g x d) := by
  unfold State.takeReply
  extract_lets s1
  have w : Within s s1 := h.endExchange _
  split
  · exact w
  · split
    · exact w
    · split
      · exact w.actOn _ _ _ _
      · exact w

theorem Within.noReplyTaken (h : Within s t) (g : Segment) (x : Exchange) : Within s (t.noReplyTaken g x) := by
  unfold State.noReplyTaken
  extract_lets s1
  have w : Within s s1 := h.endExchange _
  split
  · exact w
  · split
    · exact w
    · split
      · exact w.failedAttempt _ _ _
      · exact w

/-! ## Frames, SET CODE, the sweep (R9, R26, R57) -/

theorem Within.stepOneDone (h : Within s t) (b : BayId) : Within s (t.stepOneDone b) := by
  unfold State.stepOneDone
  split
  · extract_lets s1
    have w : Within s s1 := h.modBay _ _
    split
    · exact w.enqueue _ _ _ _
    · exact w
  · exact h

theorem Within.setCodeEnds (h : Within s t) (g : Segment) (l : List BayId) : Within s (t.setCodeEnds g l) :=
  Within.foldl _ (fun h b => h.stepOneDone b) _ (h.modSeg _ _)

theorem Within.withdrawChallenge (h : Within s t) (b : BayId) : Within s (t.withdrawChallenge b) := by
  unfold State.withdrawChallenge
  extract_lets s1 s2
  have w : Within s s1 := h.modBay _ _
  split
  · exact w
  · split
    · have w2 : Within s s2 := w.dequeue _ _
      split
      · exact w2.unverifiable _
      · exact (w2.modBay _ _).releaseSetup _
    · exact w

theorem Within.sweepExhausted (h : Within s t) : Within s t.sweepExhausted := by
  unfold State.sweepExhausted
  split
  · exact Within.foldl _ (fun h b => h.withdrawChallenge b) _ h
  · exact h

theorem Within.sendSetCode (h : Within s t) (g : Segment) : Within s (t.sendSetCode g) := h.modSeg _ _

theorem Within.sendEntry (h : Within s t) (e : BusEntry) (n : Nonce) : Within s (t.sendEntry e n) := by
  unfold State.sendEntry
  exact (h.modEntry _ _ _).modSeg _ _

theorem Within.drawAdvance (h : Within s t) (b : BayId) : Within s (t.drawAdvance b) :=
  (h.modBay _ _).modEntry _ _ _

theorem Within.frameSent (h : Within s t) (g : Segment) (x : Exchange) : Within s (t.frameSent g x) := by
  unfold State.frameSent
  split
  · exact h.setCodeEnds _ _
  · exact h.modSeg _ _

/-! ## Removal (R18, R44) -/

theorem Within.noteRemoved (h : Within s t) (b : BayId) (x : Bool) : Within s (t.noteRemoved b x) := by
  unfold State.noteRemoved
  split
  · exact h.noteOutcome _ _
  · exact h

theorem Within.removeMeter (h : Within s t) (b : BayId) : Within s (t.removeMeter b) := by
  unfold State.removeMeter
  split
  · exact h
  · extract_lets s1
    have w : Within s s1 := (h.dequeue _ _).noteRemoved _ _
    split
    · exact w.advanceUndone _ _ _
    · exact w

theorem Within.removeService (h : Within s t) (b : BayId) : Within s (t.removeService b) := by
  unfold State.removeService
  split
  · exact h
  · exact ((h.dequeue _ _).noteRemoved _ _).serviceEnd _ _ _

theorem Within.removeSetup (h : Within s t) (b : BayId) : Within s (t.removeSetup b) := by
  unfold State.removeSetup
  split
  · exact h
  · exact (h.dequeue _ _).noteRemoved _ _

theorem Within.removalCleanup (h : Within s t) (b : BayId) : Within s (t.removalCleanup b) :=
  (((h.modSeg _ _).removeMeter b).removeService b).removeSetup b

theorem Within.removal (h : Within s t) (b : BayId) : Within s (t.removal b) :=
  (((((h.removalCleanup b).releaseCartridge b).modBay b _).noteEmptied b).raise _).tellRemoved b

/-! ## The transmitter and the end of a command (R156 to R158, log 5) -/

/-- A change of the replies, notices and the frame being sent that keeps the notice queue within its bounds. -/
theorem Within.out (h : Within s t) (rs : List Reply) (ns : List Notice) (bs : List BacklogFlag) (q : Byte)
    (x : Option TxFrame)
    (k : t.noticesFit → State.noticesFit
      { t with link := { t.link with replies := rs, notices := ns, backlog := bs, noticeSeq := q, tx := x } }) :
    Within s { t with link := { t.link with replies := rs, notices := ns, backlog := bs, noticeSeq := q, tx := x } } :=
  h.trans { notices := k }

theorem Within.transmit (h : Within s t) : Within s t.transmit := by
  unfold State.transmit
  split
  · exact h
  · split
    · exact h.out _ _ _ _ _ id
    · split
      · exact h
      · next n ns hn =>
        unfold State.drain
        dsimp only
        split
        · next hb =>
          refine h.out _ _ _ _ _ (fun k => ?_)
          obtain ⟨k1, -, -⟩ := k
          simp only [hn, List.length_cons] at k1
          exact ⟨by simp only; omega, fun ne => absurd hb ne, by simp [hb]⟩
        · next kk ks hb =>
          refine h.out _ _ _ _ _ (fun k => ?_)
          obtain ⟨k1, k2, k3⟩ := k
          have k4 := k2 (by simp [hb])
          simp only [hn, List.length_cons] at k1 k4
          refine ⟨by simp; omega, fun _ => by simp; omega, ?_⟩
          simp only [hb, List.pairwise_cons] at k3
          exact k3.2

theorem Within.setPf (h : Within s t) (p : PfState) : Within s (t.setPf p) := h.hist _ rfl rfl rfl rfl id

theorem Within.raisePower (h : Within s t) (e : PowerEvent) : Within s (t.raisePower e) := h.raise _

theorem Within.pfCheck (h : Within s t) : Within s t.pfCheck := by
  unfold State.pfCheck
  split
  · split
    · exact (h.setPf _).raisePower _
    · exact (h.setPf _).raisePower _
    · exact h
    · exact h
  · exact h

theorem Within.flushCheck (h : Within s t) : Within s t.flushCheck := by
  unfold State.flushCheck
  split
  · next k =>
    split
    · exact h.finishRequest _ _ _ (by simp [k])
    · exact h
  · exact h

theorem Within.conclude (h : Within s t) : Within s t.conclude := h.pfCheck.flushCheck.transmit

theorem Within.enterSaving (h : Within s t) : Within s t.enterSaving := by
  unfold State.enterSaving
  refine Within.raisePower (Within.hist h _ ?_ ?_ ?_ ?_ ?_) _
  · rfl
  · cases t.hist.saving <;> rfl
  · rfl
  · rfl
  · intro d
    unfold HistoryUnit.serials at *
    rw [serials_map]
    · exact d
    · intro e
      split <;> simp

theorem Within.pfChanged (h : Within s t) : Within s t.pfChanged := by
  unfold State.pfChanged
  split
  · split
    · exact h.enterSaving
    · exact h.enterSaving
    · exact h
    · exact h
  · split
    · exact h.setPf _
    · exact (h.setPf _).raisePower _
    · exact h
    · exact h

/-- A refresh leaves the Link Interface alone. -/
@[simp] theorem State.refresh_link (b : BayId) : (t.refresh b).link = t.link := by
  unfold State.refresh
  split <;> rfl

theorem State.refreshAll_link : ∀ (l : List BayId) (t : State), (l.foldl State.refresh t).link = t.link
  | [], _ => rfl
  | b :: l, t => by simp [State.refreshAll_link l]

theorem Within.formFlush (h : Within s t) (k : t.link.waiting ≠ some .keySave) : Within s t.formFlush := by
  unfold State.formFlush
  extract_lets s1
  have w : Within s s1 := Within.foldl _ (fun h b => h.refresh b) _ h
  have e : s1.link = t.link := State.refreshAll_link _ _
  clear_value s1
  refine Within.waitFor (Within.hist w _ ?_ ?_ ?_ ?_ ?_) _ (by simpa [e] using k) (by simp)
  · rfl
  · cases s1.hist.saving <;> rfl
  · rfl
  · rfl
  · intro d
    unfold HistoryUnit.serials at *
    rw [serials_map]
    · exact d
    · simp

theorem Within.reserve (h : Within s t) : Within s t.reserve := h.trans {}

theorem Within.presenceRise (h : Within s t) (b : BayId) : Within s (t.presenceRise b) := by
  unfold State.presenceRise State.restartFilter
  refine Within.raise ?_ _
  repeat' split
  all_goals first | exact (h.modBay _ _).modBay _ _ | exact h.modBay _ _

theorem Within.probeChanged (h : Within s t) (b : BayId) (p : ProbeState) : Within s (t.probeChanged b p) := by
  unfold State.probeChanged
  extract_lets v s1
  have w : Within s s1 := h.modBay _ _
  split
  · split
    · exact w.inkAbsent _
    · exact w
  · split
    · exact w.inkReturns _
    · split
      · exact w.probeReturn _
      · exact w
  · exact w

theorem Within.debit (h : Within s t) (b : BayId) (n : Nat) : Within s (t.debit b n) :=
  (((h.modBay _ _).levelTests _).overdrawExam _).writeBackTrigger _ _

end Sys2Proof.Machine
end

