-- ==== Sys2Proof/Laws/History.lean ====
section
/-! SUPPORT. The seen table: the refresh of a pinned entry, the arbiter's choice of save, and the order of the scan. -/

namespace Sys2Proof.Machine

/-- The first hit of a test that a change does not affect is the change of the first hit. -/
theorem find_map {α : Type} (p : α → Bool) (f : α → α) (h : ∀ x, p (f x) = p x) :
    ∀ l : List α, (l.map f).find? p = (l.find? p).map f
  | [] => rfl
  | a :: l => by
    simp only [List.map_cons, List.find?_cons, h]
    cases p a <;> simp [find_map p f h l]

/-- Refreshing a bay's pinned entry is one write of it (R138). -/
theorem State.refresh_some {s : State} {b : BayId} {e : Entry} {i : Identity} (h : s.pinnedBy b = some e)
    (hi : (s.bay b).identity = some i) :
    s.refresh b = s.writeEntry e.data.serial (Entry.withData (refreshData (s.bay b) i b (s.meterAccepted b))) := by
  unfold State.refresh; rw [h, hi]

/-- What a refreshed entry holds (R138). -/
theorem State.pinnedBy_refresh {s : State} {b : BayId} {e : Entry} {i : Identity} (h : s.pinnedBy b = some e)
    (hi : (s.bay b).identity = some i) :
    (s.refresh b).pinnedBy b =
      some ((Entry.withData (refreshData (s.bay b) i b (s.meterAccepted b)) e).touch s.hist.writeOrder) := by
  rw [State.refresh_some h hi]
  unfold State.pinnedBy State.writeEntry
  dsimp only
  rw [find_map]
  · unfold State.pinnedBy at h
    rw [h]
    simp
  · intro x
    split <;> rfl

/-- With no dirty entry there is none to save. -/
theorem earliestEntry_none : ∀ l : List Entry, (∀ e ∈ l, e.dirty = none) → earliestEntry l = none
  | [], _ => rfl
  | e :: l, h => by
    simp [earliestEntry, h e (by simp), earliestEntry_none l (fun x hx => h x (by simp [hx]))]

/-- The entry found is dirty and no dirty one is earlier (R142). -/
theorem earliestEntry_mem : ∀ (l : List Entry) d e, earliestEntry l = some (d, e) →
    e ∈ l ∧ e.dirty = some d ∧ ∀ x ∈ l, ∀ u, x.dirty = some u → d ≤ u
  | [], d, e, h => by simp [earliestEntry] at h
  | a :: l, d, e, h => by
    unfold earliestEntry at h
    rcases ha : a.dirty with _ | t <;> rcases hl : earliestEntry l with _ | ⟨u, y⟩ <;> simp only [ha, hl] at h
    · cases h
    · cases h
      obtain ⟨m, n, o⟩ := earliestEntry_mem l _ _ hl
      refine ⟨by simp [m], n, ?_⟩
      intro x hx w hw
      rcases List.mem_cons.mp hx with rfl | hx
      · simp [ha] at hw
      · exact o x hx w hw
    · cases h
      refine ⟨by simp, ha, ?_⟩
      intro x hx w hw
      rcases List.mem_cons.mp hx with rfl | hx
      · simp [ha] at hw; omega
      · exfalso
        have : ∀ (l : List Entry), earliestEntry l = none → ∀ x ∈ l, x.dirty = none := by
          intro l
          induction l with
          | nil => simp
          | cons b l ih =>
            intro h x hx
            unfold earliestEntry at h
            rcases hb : b.dirty with _ | t <;> rcases hl : earliestEntry l with _ | ⟨u, y⟩ <;> simp only [hb, hl] at h
            · rcases List.mem_cons.mp hx with rfl | hx
              · exact hb
              · exact ih hl x hx
            · cases h
            · cases h
            · split at h <;> cases h
        rw [this l hl x hx] at hw; cases hw
    · obtain ⟨m, n, o⟩ := earliestEntry_mem l _ _ hl
      split at h <;> cases h
      · refine ⟨by simp [m], n, ?_⟩
        intro x hx w hw
        rcases List.mem_cons.mp hx with rfl | hx
        · rw [ha] at hw; cases hw; omega
        · exact o x hx w hw
      · refine ⟨by simp, ha, ?_⟩
        intro x hx w hw
        rcases List.mem_cons.mp hx with rfl | hx
        · rw [ha] at hw; cases hw; omega
        · have := o x hx w hw; omega

/-- With a dirty entry one is found. -/
theorem earliestEntry_some : ∀ (l : List Entry) e d, e ∈ l → e.dirty = some d → ∃ p, earliestEntry l = some p
  | [], e, d, h, _ => by simp at h
  | a :: l, e, d, h, hd => by
    unfold earliestEntry
    rcases ha : a.dirty with _ | t
    · rcases List.mem_cons.mp h with rfl | h
      · rw [ha] at hd; cases hd
      · exact earliestEntry_some l e d h hd
    · rcases earliestEntry l with _ | ⟨u, y⟩
      · exact ⟨_, rfl⟩
      · dsimp only; split <;> exact ⟨_, rfl⟩

/-- A strictly earliest dirty entry is the one found (R142). -/
theorem earliestEntry_unique (l : List Entry) (e : Entry) (d : Nat) (h : e ∈ l) (hd : e.dirty = some d)
    (hu : ∀ x u, x ∈ l → x ≠ e → x.dirty = some u → d < u) : earliestEntry l = some (d, e) := by
  obtain ⟨⟨d', e'⟩, hp⟩ := earliestEntry_some l e d h hd
  obtain ⟨m, n, o⟩ := earliestEntry_mem l d' e' hp
  by_cases q : e' = e
  · subst q; rw [hd] at n; cases n; exact hp
  · have := hu e' d' m q n
    have := o e h d hd
    omega

/-- The removal found waits and none is earlier (R142). -/
theorem earliestRemoval_mem : ∀ (l : List Removal) r, earliestRemoval l = some r →
    r ∈ l ∧ ∀ x ∈ l, r.dirty ≤ x.dirty
  | [], r, h => by simp [earliestRemoval] at h
  | a :: l, r, h => by
    unfold earliestRemoval at h
    rcases hl : earliestRemoval l with _ | y <;> simp only [hl] at h
    · cases h
      have : l = [] := by
        rcases l with _ | ⟨b, l⟩
        · rfl
        · unfold earliestRemoval at hl
          rcases h2 : earliestRemoval l with _ | z <;> simp only [h2] at hl
          · cases hl
          · split at hl <;> cases hl
      subst this; simp
    · obtain ⟨m, o⟩ := earliestRemoval_mem l _ hl
      split at h <;> cases h
      · refine ⟨by simp [m], ?_⟩
        intro x hx
        rcases List.mem_cons.mp hx with rfl | hx
        · omega
        · exact o x hx
      · refine ⟨by simp, ?_⟩
        intro x hx
        rcases List.mem_cons.mp hx with rfl | hx
        · omega
        · have := o x hx; omega

/-- With a removal waiting one is found. -/
theorem earliestRemoval_some (l : List Removal) (r : Removal) (h : r ∈ l) : ∃ x, earliestRemoval l = some x := by
  rcases l with _ | ⟨a, l⟩
  · simp at h
  · unfold earliestRemoval
    rcases earliestRemoval l with _ | y
    · exact ⟨_, rfl⟩
    · dsimp only; split <;> exact ⟨_, rfl⟩

/-- Inserting by stamp adds the one entry. -/
theorem mem_insertByStamp (e x : Entry) : ∀ l, x ∈ insertByStamp e l ↔ x = e ∨ x ∈ l
  | [] => by simp [insertByStamp]
  | y :: ys => by
    unfold insertByStamp
    split
    · simp
    · simp [mem_insertByStamp e x ys]; tauto

/-- Inserting by stamp keeps the stamp order (R135). -/
theorem sorted_insert (e : Entry) : ∀ l : List Entry, l.Pairwise (fun x y => y.data.stamp ≤ x.data.stamp) →
    (insertByStamp e l).Pairwise (fun x y => y.data.stamp ≤ x.data.stamp)
  | [], _ => by simp [insertByStamp]
  | y :: ys, h => by
    rw [List.pairwise_cons] at h
    unfold insertByStamp
    split
    · next hle =>
      refine List.pairwise_cons.mpr ⟨fun z hz => ?_, List.pairwise_cons.mpr h⟩
      rcases List.mem_cons.mp hz with rfl | hz
      · exact hle
      · exact (h.1 z hz).trans hle
    · next hlt =>
      refine List.pairwise_cons.mpr ⟨fun z hz => ?_, sorted_insert e ys h.2⟩
      rcases (mem_insertByStamp e z ys).mp hz with rfl | hz
      · omega
      · exact h.1 z hz

/-- Sorting by stamp keeps the entries. -/
theorem mem_foldr_insert (x : Entry) : ∀ l : List Entry, x ∈ l.foldr insertByStamp [] ↔ x ∈ l
  | [] => by simp
  | y :: ys => by simp [mem_insertByStamp, mem_foldr_insert x ys]

/-- Sorting by stamp gives the stamp order (R135). -/
theorem sorted_foldr : ∀ l : List Entry, (l.foldr insertByStamp []).Pairwise (fun x y => y.data.stamp ≤ x.data.stamp)
  | [] => by simp
  | y :: ys => sorted_insert y _ (sorted_foldr ys)

/-- What is kept is among what was given, in its order. -/
theorem keepFirst_sub : ∀ (l : List Entry) seen, (keepFirst seen l).Sublist l
  | [], _ => by simp [keepFirst]
  | e :: l, seen => by
    unfold keepFirst
    split
    · exact (keepFirst_sub l seen).cons _
    · exact (keepFirst_sub l _).cons_cons _

/-- Every entry whose serial is not yet seen has a kept one of its serial, with a stamp no smaller (R135). -/
theorem keepFirst_rep : ∀ (l : List Entry) seen, l.Pairwise (fun x y => y.data.stamp ≤ x.data.stamp) →
    ∀ x ∈ l, x.data.serial ∉ seen → ∃ e ∈ keepFirst seen l, e.data.serial = x.data.serial ∧ x.data.stamp ≤ e.data.stamp
  | [], _, _, x, hx, _ => by simp at hx
  | y :: l, seen, h, x, hx, hs => by
    rw [List.pairwise_cons] at h
    unfold keepFirst
    rcases List.mem_cons.mp hx with rfl | hx
    · have : seen.contains x.data.serial = false := by simpa using hs
      simp only [this]
      exact ⟨x, by simp, rfl, le_refl _⟩
    · split
      · exact keepFirst_rep l seen h.2 x hx hs
      · by_cases e : x.data.serial = y.data.serial
        · exact ⟨y, by simp, e.symm, h.1 x hx⟩
        · obtain ⟨z, hz, a, b⟩ := keepFirst_rep l (y.data.serial :: seen) h.2 x hx (by simp [e, hs])
          exact ⟨z, by simp [hz], a, b⟩

end Sys2Proof.Machine
end

