-- ==== Sys2Proof/Laws/Link.lean ====
section
/-! SUPPORT. The Link Interface's shared operations: what the transmitter and the end of a request can do. -/

namespace Sys2Proof.Machine

variable (s : State)

/-- The transmitter leaves the reply frames that are still to leave as they were. -/
@[simp] theorem State.transmit_replyFrames : s.transmit.link.replyFrames = s.link.replyFrames := by
  unfold State.transmit
  split
  · rfl
  · next htx =>
    split
    · next hr => simp [LinkUnit.replyFrames, htx, hr]
    · next hr =>
      split
      · rfl
      · unfold State.drain
        dsimp only
        split <;> simp [LinkUnit.replyFrames, htx, hr]

/-- The transmitter changes nothing but what is sent. -/
theorem State.transmit_eq :
    s.transmit = { s with link := { s.link with
      replies := s.transmit.link.replies, notices := s.transmit.link.notices, backlog := s.transmit.link.backlog
      noticeSeq := s.transmit.link.noticeSeq, tx := s.transmit.link.tx } } := by
  unfold State.transmit State.drain
  repeat' split
  all_goals rfl

/-- After the transmitter acts it is idle only with nothing to send (R156). -/
theorem State.transmit_busy : s.transmit.transmitterBusy := by
  unfold State.transmit
  split
  · next h => intro k; simp [h] at k
  · split
    · intro k; cases k
    · next hr =>
      split
      · next hn => intro _; exact ⟨hr, hn⟩
      · intro k
        unfold State.drain at k
        dsimp only at k
        split at k <;> cases k

/-- With the transmitter sending, the transmitter does nothing. -/
theorem State.transmit_sending {f : TxFrame} (h : s.link.tx = some f) : s.transmit = s := by
  simp [State.transmit, h]

/-- A request is taken for execution exactly when R154's conditions hold. -/
theorem State.requestReady_eq_some {r : Req} {q : Request} :
    s.requestReady r = some q ↔ ∃ rest, s.executable r q rest := by
  unfold State.requestReady State.executable LinkUnit.hasPlace
  split
  · next h => simp [h]
  · next x rest h =>
    simp only [h, decide_eq_true_eq]
    constructor
    · intro k
      split at k
      · next c =>
        cases k
        exact ⟨rest, c.1, c.2.1, rfl, c.2.2.2, c.2.2.1⟩
      · cases k
    · rintro ⟨rest', h1, h2, h3, h4, h5⟩
      cases h3
      simp [h1, h2, h4, h5]

/-- The end of a request: it leaves the intake, its reply is the last to leave, and nothing else changes. -/
theorem State.finish_transmit {q : Request} {rest : List Request} (h : s.link.intake = q :: rest) (r : Result)
    (fields : List Byte) (z : Bool) :
    (s.finishRequest r fields z).transmit =
      { s with link := { s.link with
          intake := rest, waiting := none, reserved := false
          replies := (s.finishRequest r fields z).transmit.link.replies
          tx := (s.finishRequest r fields z).transmit.link.tx } } ∧
    (s.finishRequest r fields z).transmit.link.replyFrames = s.link.replyFrames ++ [replyFrame q r fields] := by
  refine ⟨?_, ?_⟩
  · unfold State.finishRequest
    rw [h]
    dsimp only
    unfold State.transmit
    dsimp only
    split
    · rfl
    · cases hr : s.link.replies <;> rfl
  · simp only [State.transmit_replyFrames]
    unfold State.finishRequest
    rw [h]
    simp [LinkUnit.replyFrames, replyFrame]

/-- A request that is answered at once, with nothing else done. -/
theorem State.finish_onlyAnswered {r : Req} {q : Request} {rest : List Request} (h : s.executable r q rest)
    (x : Result) (fields : List Byte) (z : Bool) :
    s.onlyAnswered (s.reserve.finishRequest x fields z).transmit q rest x fields := by
  have k := State.finish_transmit s.reserve (q := q) (rest := rest) h.2.2.1 x fields z
  obtain ⟨k1, k2⟩ := k
  generalize (s.reserve.finishRequest x fields z).transmit = t at k1 k2
  refine ⟨⟨by rw [k1], by rw [k1], by rw [k1], k2⟩, ?_, ?_⟩
  · show t = { s with link := t.link }
    rw [k1]
    rfl
  · unfold LinkUnit.onlyAnswers
    rw [k1]
    rfl

end Sys2Proof.Machine
end

