-- ==== Sys2Proof/Laws/Notices.lean ====
section
/-! SUPPORT. Notices: what raising one leaves waiting, and what the transmitter does with it. -/

namespace Sys2Proof.Machine

variable {s t : State} {k : NoticeKey}

/-- A notice of the kind and subject waits or is flagged, and the queue is not empty. -/
def Told (li : LinkUnit) (k : NoticeKey) : Prop := li.holdsNotice k ∧ li.notices ≠ []

/-- A raised notice waits, or its flag is set (R157, R158). -/
theorem State.told_raise (n : Notice) : Told (s.raise n).link n.key := by
  unfold State.raise Told LinkUnit.holdsNotice
  split
  · split
    · next h =>
      unfold Notice.mergesInto at h
      split at h
      case h_4 => cases h
      all_goals
        simp only [List.any_eq_true, beq_iff_eq] at h
        obtain ⟨x, hx, hk⟩ := h
        exact ⟨.inr ⟨x, hx, hk⟩, List.ne_nil_of_mem hx⟩
    · exact ⟨.inr ⟨n, by simp, rfl⟩, by simp⟩
  · next h =>
    refine ⟨.inl (mem_setFlag.mpr (.inl rfl)), ?_⟩
    intro e
    rw [e] at h
    simp [Config.noticeCapacity] at h

/-- Raising another notice loses none. -/
theorem State.told_raise_other (n : Notice) (h : Told s.link k) : Told (s.raise n).link k := by
  obtain ⟨h1, h2⟩ := h
  unfold State.raise Told LinkUnit.holdsNotice
  split
  · split
    · exact ⟨h1, h2⟩
    · refine ⟨?_, by simp⟩
      rcases h1 with h1 | ⟨x, hx, e⟩
      · exact .inl h1
      · exact .inr ⟨x, by simp [hx], e⟩
  · refine ⟨?_, h2⟩
    rcases h1 with h1 | h1
    · exact .inl (mem_setFlag.mpr (.inr h1))
    · exact .inr h1

/-- Raising a notice begins no frame. -/
theorem State.raise_tx (n : Notice) : (s.raise n).link.tx = s.link.tx := by
  unfold State.raise; repeat' split
  all_goals rfl
/-- Raising a notice places no reply. -/
theorem State.raise_replies (n : Notice) : (s.raise n).link.replies = s.link.replies := by
  unfold State.raise; repeat' split
  all_goals rfl

/-- A notice that waits is told to the host when the event ends (R156, R159). -/
theorem State.told_transmit (h : Told t.link k) (e : t.link.tx = s.link.tx) : s.notified t.transmit k := by
  obtain ⟨h1, h2⟩ := h
  unfold State.notified
  refine ⟨?_, ?_⟩
  · unfold State.transmit State.attn
    split
    · simp [h2]
    · split
      · simp [h2]
      · split
        · next h => exact absurd h h2
        · unfold State.drain; dsimp only; split <;> simp
  · intro ne
    rw [← e] at ne
    obtain ⟨f, hf⟩ := Option.ne_none_iff_exists'.mp ne
    rw [State.transmit_sending _ hf]
    exact h1

/-- Only the notices and their flags differ. -/
structure NoteOnly (a b : LinkUnit) : Prop where
  eq : b = { a with notices := b.notices, backlog := b.backlog }

theorem NoteOnly.refl (a : LinkUnit) : NoteOnly a a := ⟨rfl⟩
theorem NoteOnly.trans {a b c : LinkUnit} (h : NoteOnly a b) (k : NoteOnly b c) : NoteOnly a c := ⟨by
  have h := h.eq; have k := k.eq
  rw [k, h]⟩
/-- Raising a notice is a change of notices only. -/
theorem State.noteOnly_raise (n : Notice) : NoteOnly s.link (s.raise n).link := by
  unfold State.raise; repeat' split
  all_goals exact ⟨rfl⟩
/-- A change of notices only, once the transmitter has acted. -/
theorem State.noteOnly_transmit {a : LinkUnit} (h : NoteOnly a t.link) : a.onlyNotices t.transmit.link := by
  have h := h.eq
  refine ⟨?_, ?_⟩
  · rw [t.transmit_eq]
    conv_lhs => rw [h]
  · rw [State.transmit_replyFrames, h]
    rfl
/-- Raising a notice changes the Link Interface only. -/
theorem State.raise_eq (n : Notice) : s.raise n = { s with link := (s.raise n).link } := by
  unfold State.raise; repeat' split
  all_goals rfl
/-- The transmitter changes the Link Interface only. -/
theorem State.transmit_onlyLink : s.transmit = { s with link := s.transmit.link } := by
  conv_lhs => rw [s.transmit_eq]
  conv_rhs => rw [s.transmit_eq]

end Sys2Proof.Machine
end

