-- ==== Sys2Proof/Tests/Slice0.lean ====
section
/-! SUPPORT. Tests: ill-formed commands, the spec's worked figures, small steps, and for every obligation with
hypotheses a state and operands that meet them, clause by clause. -/

namespace Sys2Proof.Tests

open Sys2Proof.Machine

/-! ## WellFormed -/

theorem test_overlong_frame_refused : Instr.wf (.frameReceived ⟨0x20, 0, List.replicate 241 0, 0⟩) = false := by
  decide +kernel
theorem test_longest_frame_taken : Instr.wf (.frameReceived ⟨0x20, 0, List.replicate 240 0, 0⟩) = true := by
  decide +kernel
theorem test_short_reply_refused : Instr.wf (.busReplyTaken .l [1, 2, 3]) = false := by decide
theorem test_overlong_reply_refused : Instr.wf (.busReplyTaken .r (List.replicate 26 0)) = false := by decide
theorem test_empty_gap_reply_refused : Instr.wf (.busReplyGapTimeout .l []) = false := by decide
theorem test_no_word_spells_a_command : decodeTableWord 16 0x1234 = none := by decide

/-! ## The spec's worked figures -/

/-- 3.2, 'One step worked'. -/
theorem test_check_function_first_step :
    cfStep ⟨0, 0, 0, 0⟩ 1 = ⟨0x52EA20DB, 0x6A5D441B, 0x00000800, 0x00000001⟩ := by decide

/-- R126, the table for 1000 ml and 3 percent. -/
theorem test_overdraw_steps :
    [30000000, 30000001, 59999999, 60000000, 90000000].map (fun d => overdrawSteps d 30000000 30000000) =
      [0, 1, 1, 2, 3] := by decide

/-- 4.5: the drop model of channel 4. -/
def model45 : DropModel := ⟨250, 600, 1400, 5⟩

/-- 4.5: raw volume, k, r_t, N and r_v. -/
theorem test_metering_worked :
    model45.raw (1200000, 300000, 50000) = 550000000 ∧ model45.factor 31 = 1054 ∧
      scaledVolume 550000000 1054 700 % 1024 = 956 ∧
      wholeNl (accumulated 40000 (scaledVolume 550000000 1054 700)) = 5661 ∧
      accumulated 40000 (scaledVolume 550000000 1054 700) % 100000 = 53281 := by decide

/-- 2.10's sequence: the ADVANCE frame of bay 3.A under code 7, delta 5 000 000, advance sequence 41, by R180. -/
theorem test_advance_frame :
    (busFrameBytes 7 3 4 0x5E (leBytes 4 5000000 ++ leBytes 4 41)).take 11 =
      [0x07, 0x34, 0x5E, 0x40, 0x4B, 0x4C, 0x00, 0x29, 0x00, 0x00, 0x00] := by decide

/-- R25: 255 is followed by 1. -/
theorem test_code_after_255 : nextCode 255 = 1 ∧ nextCode 0 = 1 ∧ nextCode 7 = 8 := by decide

/-- R88's four cases at their borders, with E = 600 and D = 5 (after 11.4). -/
theorem test_settle_cases :
    [605, 604, 600, 599].map (fun c => settleGrowth c 600 5) = [0, 5, 5, 6] := by decide

/-- R97: the nearer end of each range. -/
theorem test_settings_clamped :
    (readSettings [1, 0, 0, 0, 0, 0, 0, 0x80, 0, 16, 0, 0, 0, 0, 0, 0, 16, 0, 0]).map
      (fun k => (k.slope, [k.lowLevel, k.tolerance, k.quantumMl, k.intervalS, k.probeRef, k.probeMs, k.switchTens])) =
    some (-8, [1, 15, 1, 1, 15, 1, 1]) := by decide

/-- R177: the start byte, the payload's length, the kind, the tag and the payload. -/
theorem test_frame_layout :
    (hostFrameBytes 0x0E 9 [1, 2]).take 6 = [0xA5, 2, 0x0E, 9, 1, 2] := by decide

/-! ## States for witnesses and steps -/

def key1 : Key := 0x00112233445566778899AABBCCDDEEFF

def cart : Identity := ⟨0x0000A10400000071, 5, 0, 1000, 20, 7⟩

def cfg : Settings :=
  ⟨5, 250, 600, 1400, 5, 10, 3, 5, 10, 20, .serve, .avoid, .host, 15, 20, 20⟩

/-- A part in service, with a reserved block and a key in slot 0. -/
def base : State :=
  { State.reset with
    phase := .running, challenge := ⟨5, 4096, .reserved⟩
    store := { State.reset.store with keys := State.reset.store.keys.set 0 (some key1), limit := 4096 } }

/-- Channel 2 configured. -/
def configured : State := base.modChan 2 (fun h => { h with config := some cfg, causes := ⟨false, true, false, false, false⟩
                                                            state := .starved })

/-- A bay record of an identified, GENUINE cartridge in a state. -/
def held (st : BayState) : Bay :=
  { Bay.reset with state := st, debounced := true, identity := some cart, auth := .genuine, probe := .inkPresent }

/-- A seen entry of the cartridge that bay 2 pins. -/
def seen : Entry :=
  ⟨⟨cart.serial, 5, 0, 1000, 0, 0, 0, 24, .doubt, false, true, false, false, 2, 1⟩, 3, some 2, some 9, false, none,
   true⟩

/-- The executing state for a request. -/
def asking (s : State) (r : Req) (p : List Byte) : State :=
  { s with link := { s.link with intake := [⟨r.code, 7, p⟩] } }

/-- Segment L with one entry on bay 2 and an open exchange for it. -/
def exchanging (s : State) (e : BusEntry) (poll : Bool) : State :=
  s.modSeg .l (fun g => { g with
    code := 7, queue := [e]
    exchange := some ⟨.entry e.bay e.cls poll, [], 7, 2, 0x5E, 0, 400, some 400, false⟩ })

/-- An entry of bay 2. -/
def entry2 (k : EntryClass) (op : BusOp) : BusEntry := newBusEntry 2 k op none 0

/-- A waiting entry on segment L, with no exchange in flight. -/
def queued (s : State) (e : BusEntry) : State := s.modSeg .l (fun g => { g with code := 7, queue := [e] })

def out (o : Host.Outcome State Fault Refusal) : Option State :=
  match o with
  | .next t => some t
  | _ => none

/-! ## Witnesses: the block, resets and start-up -/

theorem witness_StepRunsTheFrontCommand : State.reset.pending = [] := rfl

theorem witness_ResetClearsVolatileState :
    ((Instr.powerOn = .powerOn ∧ StartCause.powerOn = .powerOn) ∧ State.reset.phase = .inReset) ∧
      ((Instr.brownout = .brownout ∧ StartCause.brownout = .brownout) ∧ base.phase ≠ .inReset) ∧
      (Instr.pinReset = .pinReset ∧ StartCause.pin = .pin) ∧ base.hist.saving = none := by decide

theorem witness_ResetEndBeginsStartUp : State.reset.phase = .inReset := rfl

/-- Scanning, with one closed slot at the greatest stamp the statement allows. -/
def scanning (limit : Nat) : State :=
  { State.reset with
    phase := .scanning
    store := { State.reset.store with
      limit := limit
      slots := State.reset.store.slots.set 3 (.closed { seen.data with stamp := 2 ^ 32 - 2 }) } }

theorem scanning_closed (limit : Nat) (sl : SlotId) (d : EntryData)
    (h : (scanning limit).store.slots[sl.val] = .closed d) : sl = 3 ∧ d = { seen.data with stamp := 2 ^ 32 - 2 } := by
  have key : ∀ x : SlotId, x ≠ 3 → (scanning limit).store.slots[x.val] = .free := by
    intro x hx
    simp only [scanning, State.reset, Store.manufactured]
    rw [Vector.getElem_set_ne]
    · simp
    · intro e
      exact hx (Fin.ext e.symm)
  by_cases hs : sl = 3
  · subst hs
    refine ⟨rfl, ?_⟩
    have k : (scanning limit).store.slots[(3 : SlotId).val] = .closed { seen.data with stamp := 2 ^ 32 - 2 } := rfl
    rw [k] at h
    cases h
    rfl
  · rw [key sl hs] at h
    cases h

theorem witness_ScanBuildsTheWorkingTable :
    ((scanning 0).phase = .scanning ∧
      (∀ (sl : SlotId) (d : EntryData), (scanning 0).store.slots[sl.val] = .closed d → d.stamp < 2 ^ 32 - 1) ∧
      (scanning 0).store.limit < 2 ^ 48 ∧
      (scanning 0).store.slots[(3 : SlotId).val] = .closed { seen.data with stamp := 2 ^ 32 - 2 }) ∧
    ((scanning (2 ^ 48)).phase = .scanning ∧
      (∀ (sl : SlotId) (d : EntryData), (scanning (2 ^ 48)).store.slots[sl.val] = .closed d → d.stamp < 2 ^ 32 - 1) ∧
      ¬ (scanning (2 ^ 48)).store.limit < 2 ^ 48) := by
  refine ⟨⟨rfl, ?_, by decide, rfl⟩, rfl, ?_, by decide⟩ <;>
    (intro sl d h; obtain ⟨-, rfl⟩ := scanning_closed _ sl d h; decide)

/-! ## Witnesses: the store -/

/-- A state with a table and removal saves. -/
def storing (table : List Entry) (removals : List Removal) : State :=
  { base.setBay 0 (held .active) with hist := { base.hist with table := table, removals := removals } }

/-- The seen entry, unpinned. -/
def loose : Entry := { seen with pin := none, pfSave := false }

theorem loose_unpinned (r : List Removal) (b : BayId) (e : Entry) (h : (storing [loose] r).pinnedBy b = some e) :
    e.pfSave = false := by
  have k : (storing [loose] r).pinnedBy b = none := by simp [State.pinnedBy, storing, loose]
  rw [k] at h
  cases h

theorem witness_StoreArbiterBeginsTheFirstClass :
    (base.hist.saving = none ∧ ({ base.hist with keySaves := [.lock] } : HistoryUnit).keySaves = .lock :: []) ∧
    ((storing [{ seen with pin := some 0 }] []).hist.saving = none ∧
      (storing [{ seen with pin := some 0 }] []).hist.keySaves = [] ∧
      (storing [{ seen with pin := some 0 }] []).pinnedBy 0 = some { seen with pin := some 0 } ∧
      ({ seen with pin := some 0 } : Entry).pfSave = true ∧
      ((storing [{ seen with pin := some 0 }] []).bay 0).identity = some cart ∧
      ∀ (x : BayId) (e' : Entry), x < 0 → (storing [{ seen with pin := some 0 }] []).pinnedBy x = some e' →
        e'.pfSave = false) ∧
    ((storing [loose] [⟨5, 9⟩]).hist.saving = none ∧ (storing [loose] [⟨5, 9⟩]).hist.keySaves = [] ∧
      (∀ b e, (storing [loose] [⟨5, 9⟩]).pinnedBy b = some e → e.pfSave = false) ∧
      loose ∈ (storing [loose] [⟨5, 9⟩]).hist.table ∧ loose.dirty = some 9 ∧
      (∀ x u, x ∈ (storing [loose] [⟨5, 9⟩]).hist.table → x ≠ loose → x.dirty = some u → 9 < u) ∧
      ∀ r ∈ (storing [loose] [⟨5, 9⟩]).hist.removals, 9 ≤ r.dirty) ∧
    ((storing [loose] [⟨5, 8⟩]).hist.saving = none ∧ (storing [loose] [⟨5, 8⟩]).hist.keySaves = [] ∧
      (∀ b e, (storing [loose] [⟨5, 8⟩]).pinnedBy b = some e → e.pfSave = false) ∧
      (⟨5, 8⟩ : Removal) ∈ (storing [loose] [⟨5, 8⟩]).hist.removals ∧
      (∀ x ∈ (storing [loose] [⟨5, 8⟩]).hist.removals, x ≠ ⟨5, 8⟩ → 8 < x.dirty) ∧
      ∀ e u, e ∈ (storing [loose] [⟨5, 8⟩]).hist.table → e.dirty = some u → 8 < u) ∧
    ((∀ e ∈ (storing [{ loose with dirty := none }] []).hist.table, e.dirty = none) ∧
      (storing [{ loose with dirty := none }] []).hist.removals = [] ∧
      ∀ b e, (storing [{ loose with dirty := none }] []).pinnedBy b = some e → e.pfSave = false) := by
  refine ⟨⟨rfl, rfl⟩, ⟨rfl, rfl, rfl, rfl, rfl, fun x _ h => absurd h (Nat.not_lt_zero _)⟩,
    ⟨rfl, rfl, loose_unpinned _, by simp [storing], rfl, ?_, ?_⟩,
    ⟨rfl, rfl, loose_unpinned _, by simp [storing], ?_, ?_⟩, ?_, rfl, ?_⟩
  · intro x u hx h; simp [storing] at hx; exact absurd hx h
  · intro r hr; simp [storing] at hr; subst hr; decide
  · intro x hx h; simp [storing] at hx; exact absurd hx h
  · intro e u he h; simp [storing] at he; subst he; cases h; decide
  · intro e he; simp [storing] at he; subst he; rfl
  · intro b e h
    have k : (storing [{ loose with dirty := none }] []).pinnedBy b = none := by simp [State.pinnedBy, storing, loose]
    rw [k] at h
    cases h

/-- A state with a save in progress and a request that waits. -/
def completing (j : SaveJob) (w : Option Waiting) : State :=
  { base with
    hist := { base.hist with table := [{ loose with saving := true }], saving := some ⟨j, true, true⟩ }
    link := { base.link with intake := [⟨0x0E, 7, []⟩], waiting := w, reserved := true } }

theorem witness_EntrySaveCompletes :
    (completing (.entry 3 seen.data) none).hist.saving = some ⟨.entry 3 seen.data, true, true⟩ ∧
    (completing (.removal 63) (some (.forget 63 5 6 7))).hist.saving = some ⟨.removal 63, true, true⟩ ∧
    (∀ b, ((completing (.removal 63) (some (.forget 63 5 6 7))).bay b).step ≠ some .reconcile) ∧
    (completing (.removal 63) (some (.forget 63 5 6 7))).link.waiting = some (.forget 63 5 6 7) ∧
    (completing (.removal 63) (some (.forget 63 5 6 7))).link.intake = [⟨0x0E, 7, []⟩] := by
  refine ⟨rfl, rfl, by decide +kernel, rfl, rfl⟩

theorem witness_KeySaveTakesEffectAtItsCompletion :
    (completing (.key (.key 3 key1)) (some .keySave)).hist.saving = some ⟨.key (.key 3 key1), true, true⟩ ∧
    (completing (.key .lock) (some .keySave)).hist.saving = some ⟨.key .lock, true, true⟩ ∧
    (completing (.key .lock) (some .keySave)).link.waiting = some .keySave ∧
    (completing (.key .lock) (some .keySave)).link.intake = [⟨0x0E, 7, []⟩] ∧
    (completing (.key (.reserve 8192)) none).hist.saving = some ⟨.key (.reserve 8192), true, true⟩ ∧
    (completing (.key (.reserve 8192)) none).phase = .running := by
  exact ⟨rfl, rfl, rfl, rfl, rfl, rfl⟩

/-- Start-up waits for the first reservation. -/
def reserving : State :=
  { State.reset with phase := .reserving, hist := { State.reset.hist with saving := some ⟨.key (.reserve 4096), true, true⟩ } }

theorem witness_ReservationEndsStartUp :
    reserving.phase = .reserving ∧ reserving.hist.saving = some ⟨.key (.reserve 4096), true, true⟩ ∧
      reserving.hist.pfLevel = false ∧ reserving.hist.pf = .normal ∧ reserving.link.tx = none ∧
      reserving.link.replies = [] ∧ reserving.link.notices = [] ∧ reserving.link.backlog = [] ∧
      reserving.link.noticeSeq = 0 ∧ reserving.link.waiting = none := by
  exact ⟨rfl, rfl, rfl, rfl, rfl, rfl, rfl, rfl, rfl, rfl⟩

/-- The warning's timer runs. -/
def warned (raw level : Bool) (p : PfState) : State :=
  { storing [seen] [] with
    pins := { base.pins with pfwarn := raw }
    hist := { (storing [seen] []).hist with pfAt := some 1000, pfLevel := level, pf := p, pfSet := [⟨5, false⟩] } }

theorem witness_PowerFailStatesMove :
    ((warned true false .normal).hist.pfAt = some 1000 ∧ (warned true false .normal).phase = .running ∧
      (warned true false .normal).pins.pfwarn = true ∧ (warned true false .normal).hist.pfLevel = false ∧
      (warned true false .normal).hist.pf = .normal ∧ (warned true false .resuming).hist.pf = .resuming) ∧
    ((warned false true .saving).pins.pfwarn = false ∧ (warned false true .saving).hist.pfLevel = true ∧
      (warned false true .saving).hist.pf = .saving ∧ (warned false true .saved).hist.pf = .saved) := by
  exact ⟨⟨rfl, rfl, rfl, rfl, rfl, rfl⟩, rfl, rfl, rfl, rfl⟩

theorem witness_FlushFormsItsSet :
    ((asking base .flush []).executable .flush ⟨0x10, 7, []⟩ [] ∧ (asking base .flush []).serialsDistinct ∧
      (asking base .flush []).hist.table.filter (fun e => e.pin.isSome || e.dirty.isSome) = []) ∧
    ((asking (storing [seen] []) .restart []).executable .restart ⟨0x11, 7, []⟩ [] ∧
      (asking (storing [seen] []) .restart []).serialsDistinct ∧
      (asking (storing [seen] []) .restart []).hist.table.filter (fun e => e.pin.isSome || e.dirty.isSome) ≠ []) := by
  refine ⟨⟨⟨rfl, rfl, rfl, rfl, by decide⟩, ?_, rfl⟩, ⟨rfl, rfl, rfl, rfl, by decide⟩, ?_, by decide⟩
  · exact List.nodup_nil
  · exact List.nodup_singleton _

/-! ## Witnesses: bays -/

/-- Bay 2 with a record. -/
def withBay (s : State) (v : Bay) : State := s.setBay 2 v

/-- The raw presence of bay 2 is high. -/
def seated (s : State) : State := { s with pins := { s.pins with presence := s.pins.presence.set 2 true } }

theorem witness_PresenceRiseBeginsSettling :
    ((seated (withBay configured { Bay.reset with debounceAt := some 50000 })).bay 2).debounceAt = some 50000 ∧
      (seated (withBay configured { Bay.reset with debounceAt := some 50000 })).rawPresence 2 = true ∧
      ((seated (withBay configured { Bay.reset with debounceAt := some 50000 })).bay 2).debounced = false := by
  exact ⟨rfl, rfl, rfl⟩

/-- An ACTIVE bay 2 with an accepted ADVANCE, its entry pinned, whose presence has fallen. -/
def pulled : State :=
  let s := withBay configured { held .active with debounceAt := some 50000, inFlight := 5000000, committed := 600000000 }
  { queued s { entry2 .meter .advance with sent := true, split := some ⟨0, some 20000, 40000, false⟩ } with
    hist := { s.hist with table := [seen] } }

theorem witness_RemovalEmptiesTheBay :
    (pulled.bay 2).debounceAt = some 50000 ∧ pulled.rawPresence 2 = false ∧ (pulled.bay 2).debounced = true ∧
      pulled.pinnedBy 2 = some seen ∧ (pulled.bay 2).identity = some cart := by
  exact ⟨rfl, rfl, rfl, rfl, rfl⟩

theorem witness_TimersBeginLinkUps :
    (((withBay configured { Bay.reset with settleAt := some 200000 }).bay 2).settleAt = some 200000 ∧
      ((withBay configured { Bay.reset with settleAt := some 200000 }).bayConfig 2).isSome = true ∧
      ((withBay base { Bay.reset with settleAt := some 200000 }).bayConfig 2).isSome = false) ∧
    (((withBay configured { held .lost with relinkAt := some 9 }).bay 2).relinkAt = some 9 ∧
      ((withBay configured { held .lost with relinkAt := some 9 }).bay 2).step = none ∧
      ((withBay configured { held .lost with relinkAt := some 9, identity := none }).bay 2).identity = none) ∧
    (((withBay configured { held .lost with relinkAt := some 9, step := some .ident }).bay 2).relinkAt = some 9 ∧
      ((withBay configured { held .lost with relinkAt := some 9, step := some .ident }).bay 2).step ≠ none) := by
  refine ⟨⟨rfl, rfl, rfl⟩, ⟨rfl, rfl, rfl⟩, rfl, ?_⟩
  intro h
  cases h

theorem witness_ProbeReadingRestartsTheFilter : configured.bayConfig 2 = some cfg ∧ base.bayConfig 2 = none := by
  exact ⟨rfl, rfl⟩

/-- Bay 2's filter is about to settle on a signal. -/
def filtering (v : Bay) (signal : BitVec 16) : State :=
  let s := withBay configured { v with probeAt := some 20000 }
  { s with pins := { s.pins with probe := s.pins.probe.set 2 signal }, hist := { s.hist with table := [seen] } }

theorem witness_InkAbsentSpendsTheBay :
    (((filtering (held .ready) 30720).bay 2).probeAt = some 20000 ∧
      (filtering (held .ready) 30720).bayConfig 2 = some cfg ∧
      ((filtering (held .ready) 30720).probeSignal 2).toNat ≤ cfg.probeRef * 2048 ∧
      ((filtering (held .ready) 30720).bay 2).probe ≠ .inkAbsent) ∧
    (((filtering (held .ready) 30720).bay 2).step = none ∧ ((filtering (held .ready) 30720).bay 2).state = .ready) ∧
    (((filtering (held .lost) 0).bay 2).step = none ∧ ((filtering (held .lost) 0).bay 2).state = .lost ∧
      ((filtering (held .lost) 0).bay 2).identity.isSome = true) ∧
    ((filtering (held .refused) 0).bay 2).state = .refused := by
  exact ⟨⟨rfl, rfl, by decide, by decide⟩, ⟨rfl, rfl⟩, ⟨rfl, rfl, rfl⟩, rfl⟩

theorem witness_InkReturnIsScored (l : Bool) :
    let s := filtering { held .spent with probe := .inkAbsent, probeEmptySeen := true, linkLost := l } 30721
    (s.bay 2).probeAt = some 20000 ∧ s.bayConfig 2 = some cfg ∧ cfg.probeRef * 2048 < (s.probeSignal 2).toNat ∧
      (s.bay 2).probe ≠ .inkPresent ∧ (s.bay 2).state = .spent ∧ (s.bay 2).probeEmptySeen = true ∧
      s.pinnedBy 2 = some seen ∧ (s.bay 2).linkLost = l := by
  cases l <;> exact ⟨rfl, rfl, by decide, by decide, rfl, rfl, rfl, rfl⟩

/-- Bay 2's write-back timer is about to expire. -/
def timing (owing : Nat) : State := withBay configured { held .active with writeBackAt := some 10000000, owing := owing }

theorem witness_WriteBackTimerQueuesTheAdvance :
    (((timing 1).bay 2).writeBackAt = some 10000000 ∧ (timing 1).bayConfig 2 = some cfg) ∧
    (((timing 1).bay 2).identity.isSome = true ∧ ((timing 1).bay 2).step = none ∧ ((timing 1).bay 2).state ≠ .lost ∧
      ((timing 1).bay 2).auth = .genuine ∧ (timing 1).busEntry 2 .meter = none ∧ 0 < ((timing 1).bay 2).owing) ∧
    ((queued (timing 1) (entry2 .meter .advance)).busEntry 2 .meter).isSome = true ∧
    (¬ 0 < ((timing 0).bay 2).owing ∧ (timing 0).busEntry 2 .meter = none ∧ 0 < cfg.quantumMl) := by
  exact ⟨⟨rfl, rfl⟩, ⟨rfl, rfl, by decide, rfl, rfl, by decide⟩, rfl, by decide, rfl, by decide⟩

/-- Channel 2 is changing over to its A bay; both bays have a record. -/
def changing (a b : Bay) : State :=
  ((configured.modChan 2 (fun h =>
    { h with state := .changing, active := some .a, switchAt := some 200000
             causes := ⟨false, false, true, false, false⟩ })).setBay 2 a).setBay 14 b

theorem witness_ValveSwitchEndsTheChangeover :
    (((changing (held .active) Bay.reset).chan 2).switchAt = some 200000 ∧
      ((changing (held .active) Bay.reset).chan 2).state = .changing ∧
      ((changing (held .active) Bay.reset).chan 2).config = some cfg ∧
      ((changing (held .active) Bay.reset).chan 2).active = some .a) ∧
    ((changing (held .active) (held .ready)).rank 2 .a ≠ .none ∧
      ((changing (held .active) (held .ready)).rank 2 .b).level ≤
        ((changing (held .active) (held .ready)).rank 2 .a).level) ∧
    ((changing (held .lost) (held .ready)).rank 2 .a).level < ((changing (held .lost) (held .ready)).rank 2 .b).level ∧
    ((changing (held .spent) Bay.reset).rank 2 .a = .none ∧ (changing (held .spent) Bay.reset).rank 2 .b = .none) := by
  exact ⟨⟨rfl, rfl, rfl, rfl⟩, ⟨by decide +kernel, by decide +kernel⟩, by decide +kernel, by decide +kernel,
    by decide +kernel⟩

/-! ## Witnesses: the bay bus -/

/-- Segment L holds a SET CODE entry and code 255. -/
def coding (p : PfState) (fromPoll : Bool) : State :=
  let s := base.modSeg .l (fun g => { g with code := 255, setCode := some ⟨fromPoll⟩ })
  { s with hist := { s.hist with pf := p } }

theorem witness_ArbiterTakesSetCodeFirst :
    (((coding .normal false).seg .l).exchange = none ∧ ((coding .normal false).seg .l).setCode = some ⟨false⟩ ∧
      (coding .normal false).hist.pf = .normal ∧ (coding .normal false).challenge.block ≠ .exhausted) ∧
    (((coding .saving true).seg .l).setCode = some ⟨true⟩ ∧ (⟨true⟩ : SetCodeEntry).fromPoll = true) := by
  exact ⟨⟨rfl, rfl, rfl, by decide⟩, rfl, rfl⟩

/-- Segment L with the two entries, at 500 ms. -/
def two (x y : BusEntry) : State :=
  { base.modSeg .l (fun g => { g with code := 7, queue := [x, y] }) with now := 500000 }

def young (k : EntryClass) (op : BusOp) : BusEntry := { entry2 k op with enqueued := 1 }

theorem witness_ArbiterTakesTheFirstInOrder :
    (let e : BusEntry := { young .service (.readBlock 63) with state := .pollDue }
     let s := two (young .setup .ident) e
     (s.seg .l).exchange = none ∧ (s.seg .l).setCode = none ∧ (s.seg .l).queue = [young .setup .ident] ++ e :: [] ∧
       baySeg e.bay = .l ∧ (∀ x ∈ [young .setup .ident], x.isFor e.bay e.cls = false) ∧ 0 < s.ageLimit ∧
       s.eligible (s.seg .l) e = true ∧ e.state = .pollDue ∧ ∀ x ∈ [young .setup .ident], x.state ≠ .pollDue) ∧
    (let e : BusEntry := entry2 .service (.readBlock 63)
     let s := two (young .setup .ident) e
     s.eligible (s.seg .l) e = true ∧ e.state = .waiting ∧
       (∀ x ∈ [young .setup .ident] ++ [], x.state ≠ .pollDue) ∧ s.now ≥ e.enqueued + s.ageLimit * 1000 ∧
       ∀ x ∈ [young .setup .ident], s.eligible (s.seg .l) x = true → s.now < x.enqueued + s.ageLimit * 1000) ∧
    (let e : BusEntry := young .meter .advance
     let s := two (young .service (.readBlock 63)) e
     s.eligible (s.seg .l) e = true ∧ e.state = .waiting ∧
       (∀ x ∈ [young .service (.readBlock 63)] ++ [], x.state ≠ .pollDue) ∧
       (∀ x ∈ (s.seg .l).queue, s.eligible (s.seg .l) x = true → s.now < x.enqueued + s.ageLimit * 1000) ∧
       (∀ x ∈ [young .service (.readBlock 63)], s.eligible (s.seg .l) x = true →
          (e.cls = .setup → x.cls ≠ .setup) ∧ (e.cls = .meter → x.cls = .service) ∧ e.cls ≠ .service) ∧
       ∀ x ∈ ([] : List BusEntry), s.eligible (s.seg .l) x = true →
          (e.cls = .meter → x.cls ≠ .setup) ∧ (e.cls = .service → x.cls = .service)) := by
  refine ⟨?_, ?_, ?_⟩ <;> decide +kernel

theorem witness_AdvanceIsDrawnAtItsFirstTake (d : Option Drawn) :
    let e : BusEntry := { entry2 .meter .advance with drawn := d }
    let s := queued (timing (2 ^ 32)) e
    (s.seg .l).exchange = none ∧ (s.seg .l).setCode = none ∧ s.chooseEntry (s.seg .l) = some e ∧ e.bay = 2 ∧
      baySeg 2 = .l ∧ s.busEntry 2 .meter = some e ∧ e.cls = .meter ∧ e.op = .advance ∧ e.state = .waiting ∧
      s.challenge.block ≠ .exhausted ∧ e.drawn = d := by
  exact ⟨rfl, rfl, rfl, rfl, rfl, rfl, rfl, rfl, rfl, (fun h => by cases h), rfl⟩

/-- A CHALLENGE waits, with a block that ends at `last`. -/
def drawing (next last : Nat) : State :=
  { queued (timing 0) (entry2 .setup .challenge) with challenge := ⟨next, last, .reserved⟩ }

theorem witness_ChallengeDrawsItsNonce :
    (((drawing 5 4096).seg .l).exchange = none ∧ ((drawing 5 4096).seg .l).setCode = none ∧
      (drawing 5 4096).chooseEntry ((drawing 5 4096).seg .l) = some (entry2 .setup .challenge) ∧
      baySeg (entry2 .setup .challenge).bay = .l ∧ (entry2 .setup .challenge).op = .challenge ∧
      (entry2 .setup .challenge).state = .waiting ∧
      (drawing 5 4096).challenge.next + 1 ≠ (drawing 5 4096).challenge.blockEnd) ∧
    ((drawing 4095 4096).chooseEntry ((drawing 4095 4096).seg .l) = some (entry2 .setup .challenge) ∧
      (drawing 4095 4096).challenge.next + 1 = (drawing 4095 4096).challenge.blockEnd ∧
      (drawing 4095 4096).challenge.blockEnd ≠ 2 ^ 48) ∧
    ((drawing (2 ^ 48 - 1) (2 ^ 48)).chooseEntry ((drawing (2 ^ 48 - 1) (2 ^ 48)).seg .l) =
        some (entry2 .setup .challenge) ∧
      (drawing (2 ^ 48 - 1) (2 ^ 48)).challenge.next + 1 = (drawing (2 ^ 48 - 1) (2 ^ 48)).challenge.blockEnd ∧
      (drawing (2 ^ 48 - 1) (2 ^ 48)).challenge.blockEnd = 2 ^ 48) := by
  exact ⟨⟨rfl, rfl, rfl, rfl, rfl, rfl, by decide⟩, ⟨rfl, by decide, by decide⟩, rfl, by decide, by decide⟩

/-- A frame is being sent on segment L. -/
def sending (what : ExchangeFor) : State :=
  (withBay configured { held .lost with step := some .setCode }).modSeg .l (fun g =>
    { g with code := 8, queue := [{ entry2 .meter .advance with attempts := 3, awaitRecode := some true }]
             exchange := some ⟨what, [], 8, 15, 0, 0, 128, none, false⟩ })

theorem witness_FrameEndOpensTheWindow :
    (((sending (.entry 2 .meter true)).seg .l).exchange =
        some ⟨.entry 2 .meter true, [], 8, 15, 0, 0, 128, none, false⟩) ∧
    (((sending (.setCode [2])).seg .l).exchange = some ⟨.setCode [2], [], 8, 15, 0, 0, 128, none, false⟩ ∧
      (∀ b ∈ [(2 : BayId)], baySeg b = .l) ∧ ((sending (.setCode [2])).bay 2).step = some .setCode ∧
      (sending (.setCode [2])).busEntry 2 .setup = none) := by
  exact ⟨rfl, rfl, by decide, rfl, rfl⟩

theorem witness_StaleReplyCountsForNothing :
    (base.seg .l).exchange = none ∧
    (((sending (.setCode [2])).seg .l).exchange = some ⟨.setCode [2], [], 8, 15, 0, 0, 128, none, false⟩) ∧
    (((exchanging base (entry2 .meter .advance) false).seg .l).exchange =
        some ⟨.entry 2 .meter false, [], 7, 2, 0x5E, 0, 400, some 400, false⟩ ∧
      ((6 : Byte) ≠ 7 ∨ (0x29 : Byte).toNat / 16 ≠ 2 ∨ (0x5E : Byte) ≠ 0x5E)) := by
  exact ⟨rfl, rfl, rfl, by decide⟩

/-- What an exchange for bay 2's entry needs. -/
theorem witness_exchange (s : State) (k : EntryClass) (op : BusOp) (poll : Bool) (n : Nat) (r : Bool) :
    let e : BusEntry := { entry2 k op with attempts := n, recoded := r }
    let x : Exchange := ⟨.entry 2 k poll, [], 7, 2, 0x5E, 0, 400, some 400, false⟩
    ((exchanging s e poll).seg (baySeg 2)).exchange = some x ∧ x.window = some 400 ∧ x.what = .entry 2 k poll ∧
      x.abandoned = false ∧ x.slot < 16 ∧ (exchanging s e poll).busEntry 2 k = some e ∧ e.bay = 2 ∧ e.cls = k ∧
      e.op = op ∧ e.attempts = n ∧ e.recoded = r ∧ e.pastDeadline = false := by
  refine ⟨rfl, rfl, rfl, rfl, (by decide : 2 < 16), ?_, rfl, rfl, rfl, rfl, rfl, rfl⟩
  cases k <;> rfl

theorem witness_AcceptedBeginsTheSplitWrite :
    ((exchanging (timing 0) (entry2 .meter .advance) false).bay 2).identity = some cart ∧
      (exchanging (timing 0) (entry2 .meter .advance) false).challenge.block ≠ .exhausted ∧
      (entry2 .meter .advance).op = .advance ∧ (entry2 .setup .mark).op = .mark ∧
      ∃ n d, (entry2 .service (.writeBlock 48 [])).op = .writeBlock n d := by
  exact ⟨rfl, by decide, rfl, rfl, _, _, rfl⟩

/-- Bay 2 in a state, with a CART READ of block 63 waiting for its open exchange. -/
def reading (st : BayState) (n : Nat) (r : Bool) : State :=
  let s := exchanging (withBay configured (held st))
    { entry2 .service (.readBlock 63) with attempts := n, recoded := r } false
  { s with link := { s.link with intake := [⟨0x0B, 7, [2, 63]⟩], waiting := some (.cartRead 2 63), reserved := true } }

theorem witness_ReadBlockAnswersTheCartRead :
    (reading .ready 0 false).busEntry 2 .service = some (entry2 .service (.readBlock 63)) ∧
      ((reading .ready 0 false).seg .l).exchange =
        some ⟨.entry 2 .service false, [], 7, 2, 0x5E, 0, 400, some 400, false⟩ ∧
      (entry2 .service (.readBlock 63)).op = .readBlock 63 ∧ (List.replicate 8 (0 : Byte)).length = 8 ∧
      (reading .ready 0 false).link.waiting = some (.cartRead 2 63) ∧
      (reading .ready 0 false).link.intake = [⟨0x0B, 7, [2, 63]⟩] ∧
      (reading .ready 0 false).challenge.block ≠ .exhausted := by
  exact ⟨rfl, rfl, rfl, rfl, rfl, rfl, by decide⟩

/-- Bay 2's ADVANCE of 5 000 000 with sequence 41 is being polled. -/
def polling : State :=
  exchanging (withBay configured { held .active with committed := 600000000, inFlight := 5000000, doubt := 7 })
    { entry2 .meter .advance with
      sent := true, drawn := some ⟨5000000, 41, some cart.serial⟩, split := some ⟨0, none, 40000, false⟩ } true

theorem witness_AdvanceDoneSettlesTheFigures :
    (polling.seg .l).exchange = some ⟨.entry 2 .meter true, [], 7, 2, 0x5E, 0, 400, some 400, false⟩ ∧
      (∃ e, polling.busEntry 2 .meter = some e ∧ e.bay = 2 ∧ e.cls = .meter ∧ e.op = .advance ∧
        e.drawn = some ⟨5000000, 41, some cart.serial⟩ ∧ e.released = false) ∧
      (polling.bay 2).step = none ∧ polling.challenge.block ≠ .exhausted ∧ (polling.bay 2).inFlight = 5000000 := by
  exact ⟨rfl, ⟨_, rfl, rfl, rfl, rfl, rfl, rfl⟩, rfl, by decide, rfl⟩

/-- An entry of bay 2 in link-up step 2 to 5, or outside a link-up. -/
def setupEntry (op : BusOp) (step : Option LinkStep) : BusEntry := { entry2 .setup op with linkStep := step, sent := true }

/-- The open exchange of `exchanging`. -/
def open2 (k : EntryClass) (poll : Bool) : Exchange := ⟨.entry 2 k poll, [], 7, 2, 0x5E, 0, 400, some 400, false⟩

theorem open_setup (s : State) (op : BusOp) (step : Option LinkStep) (poll : Bool) :
    (exchanging s (setupEntry op step) poll).openFor 2 .setup poll (open2 .setup poll) (setupEntry op step) :=
  ⟨rfl, rfl, rfl, rfl, (by decide : 2 < 16), rfl, rfl, rfl⟩

/-- Bay 2 waits for the reply to its IDENT, holding a cartridge whose serial differs by `d`; `table` is the seen table. -/
def identifying (st : BayState) (d : Word64) (run : Exchange3) (table : List Entry) : State :=
  let v := { held st with
    step := some .ident, identity := some { cart with serial := cart.serial + d, keyGen := 0 }
    ctx := ⟨some key1, run, 0, false⟩ }
  let s := withBay configured v
  exchanging { s with hist := { s.hist with table := table } } (setupEntry .ident (some .ident)) false

theorem not_pinned_elsewhere (b : BayId) (x : Word64) (s : State) (h : s.hist.table = []) : ¬ s.pinnedElsewhere b x := by
  rintro ⟨y, hy, -⟩
  rw [h] at hy
  cases hy

theorem witness_IdentReplyTakesTheCartridge (st : BayState) (d : Word64) (run : Exchange3) (table : List Entry) :
    ((identifying st d run table).openFor 2 .setup false (open2 .setup false) (setupEntry .ident (some .ident)) ∧
      (setupEntry .ident (some .ident)).op = .ident ∧ ((identifying st d run table).bay 2).step = some .ident ∧
      { cart with keyGen := 3 }.inRange = true ∧ { cart with keyGen := 0 }.inRange = true ∧
      (identifying st d run table).challenge.block ≠ .exhausted) ∧
    (identifying st d run [{ seen with pin := some 3 }]).pinnedElsewhere 2 cart.serial ∧
    ¬ (identifying st d run []).pinnedElsewhere 2 cart.serial ∧
    (identifying st d run table).store.keys[(3 : BitVec 2).toNat] = none ∧
    (identifying st d run table).store.keys[(0 : BitVec 2).toNat] = some key1 ∧
    ((identifying st d run table).bay 2).ctx.exchange = run ∧ ((identifying st d run table).bay 2).state = st ∧
    ((identifying st d run table).bay 2).identity = some { cart with serial := cart.serial + d, keyGen := 0 } ∧
    cart.serial + 1 ≠ cart.serial ∧ (identifying st d run [seen]).pinnedBy 2 = some seen := by
  refine ⟨⟨open_setup _ _ _ _, rfl, rfl, by decide, by decide, fun h => by cases h⟩, ?_,
    not_pinned_elsewhere _ _ _ rfl, rfl, rfl, rfl, rfl, rfl, by decide, rfl⟩
  exact ⟨{ seen with pin := some 3 }, by simp [identifying, exchanging, State.modSeg, State.setSeg], rfl, 3, rfl, by decide⟩

/-- Bay 2 waits for the reply to its CHALLENGE. -/
def challenged (link : Bool) (after : Bool) (n doubt : Nat) : State :=
  let v := { held (if link then .linking else .ready) with
    step := if link then some .challenge else none, observed := if link then some ⟨600000000, false⟩ else none
    committed := 600000000, doubt := doubt, advanceSinceIdent := after
    ctx := ⟨some key1, if link then .linkup else .recheck, n, false⟩ }
  exchanging (withBay (configured.modChan 2 (fun h => { h with config := some { cfg with nonGenuine := .refuse } })) v)
    (setupEntry .challenge (if link then some .challenge else none)) false

theorem witness_ChallengeReplyDecides (link after : Bool) (n doubt : Nat) :
    (∃ e, (challenged link after n doubt).openFor 2 .setup false (open2 .setup false) e ∧ e.op = .challenge ∧
      (e.linkStep.isSome = link ∧ (e.linkStep = none ↔ link = false))) ∧
    ((challenged link after n doubt).challenge.block ≠ .exhausted ∧
      ((challenged link after n doubt).bay 2).waitRechallenge = false ∧
      ((challenged link after n doubt).bay 2).waitMark = false ∧
      (((challenged false after n doubt).setBay 2
        { (challenged false after n doubt).bay 2 with waitMark := true }).bay 2).waitMark = true ∧
      ¬ (challenged link after n doubt).pinnedElsewhere 2 cart.serial) ∧
    (((challenged true after n doubt).bay 2).step = some .challenge ∧
      ((challenged true after n doubt).bay 2).observed = some ⟨600000000, false⟩ ∧
      ((challenged link after n doubt).bay 2).advanceSinceIdent = after ∧
      ((challenged link after n doubt).bay 2).ctx.mismatches = n) ∧
    (((challenged false after n doubt).bay 2).ctx.exchange = .recheck ∧
      ((challenged false after n doubt).bay 2).step = none ∧ ((challenged false after n doubt).bay 2).doubt = doubt ∧
      ((challenged false after n doubt).bay 2).inFlight = 0 ∧ ((challenged false after n doubt).bay 2).state = .ready ∧
      ((challenged false after n doubt).bayConfig 2).map Settings.nonGenuine = some .refuse) ∧
    ((challenged link after n doubt).bay 2).ctx.key = some key1 := by
  refine ⟨⟨_, open_setup _ _ _ _, rfl, ?_⟩, ?_, ?_, ?_, ?_⟩
  · cases link <;> decide
  · refine ⟨fun h => ?_, rfl, rfl, rfl, not_pinned_elsewhere _ _ _ rfl⟩
    cases h
  · exact ⟨rfl, rfl, rfl, rfl⟩
  · exact ⟨rfl, rfl, rfl, rfl, rfl, rfl⟩
  · rfl

/-- Bay 2 in the last steps of a link-up, with a seen table. -/
def ending (v : Bay) (op : BusOp) (step : LinkStep) (poll : Bool) (k : Settings) (table : List Entry) : State :=
  let s := withBay (configured.modChan 2 (fun h => { h with config := some k })) { v with step := some step }
  exchanging { s with hist := { s.hist with table := table } } (setupEntry op (some step)) poll

/-- The bay as its CHALLENGE matches. -/
def matching : Bay := { held .linking with observed := some ⟨600000000, false⟩, ctx := ⟨some key1, .linkup, 1, false⟩ }

theorem witness_LinkUpEndPlacesTheBay (v : Bay) (k : Settings) (table : List Entry) (h : v.identity = some cart) :
    ((ending matching .challenge .challenge false cfg table).openFor 2 .setup false (open2 .setup false)
        (setupEntry .challenge (some .challenge)) ∧
      ((ending matching .challenge .challenge false cfg table).bay 2).state = .linking ∧
      ((ending matching .challenge .challenge false cfg table).bay 2).observed = some ⟨600000000, false⟩ ∧
      ((ending matching .challenge .challenge false cfg table).bay 2).advanceSinceIdent = false ∧
      ((ending matching .challenge .challenge false cfg table).bay 2).ctx.key = some key1 ∧
      (ending matching .challenge .challenge false cfg table).busEntry 2 .meter = none ∧
      (ending matching .challenge .challenge false cfg table).challenge.block ≠ .exhausted) ∧
    ((ending matching .challenge .challenge false cfg [loose]).pinnedBy 2 = none ∧
      ¬ (ending matching .challenge .challenge false cfg [loose]).pinnedElsewhere 2 cart.serial ∧
      (ending matching .challenge .challenge false cfg [loose]).entryOf? cart.serial = some loose ∧
      (ending matching .challenge .challenge false cfg []).entryOf? cart.serial = none ∧
      (ending matching .challenge .challenge false cfg []).freeSlot.isSome = true) ∧
    ((ending v .mark .mark true k [seen]).openFor 2 .setup true (open2 .setup true) (setupEntry .mark (some .mark)) ∧
      ((ending v .mark .mark true k [seen]).bay 2).step = some .mark ∧
      ((ending v .mark .mark true k [seen]).bay 2).identity = some cart ∧
      (ending v .mark .mark true k [seen]).bayConfig 2 = some k ∧
      (ending v .mark .mark true k [seen]).pinnedBy 2 = some seen ∧
      (ending v .mark .mark true k [seen]).challenge.block ≠ .exhausted) ∧
    ((held .linking).identity = some cart ∧ cart.colour = cfg.colour ∧ (held .linking).auth = .genuine ∧
      (held .linking).verdict = .clean ∧ (held .linking).probe = .inkPresent ∧
      (held .linking).probeEmptySeen = false) := by
  refine ⟨⟨open_setup _ _ _ _, rfl, rfl, rfl, rfl, rfl, fun h => by cases h⟩, ⟨rfl, ?_, rfl, rfl, ?_⟩,
    ⟨open_setup _ _ _ _, rfl, h, rfl, rfl, fun h => by cases h⟩, rfl, rfl, rfl, rfl, rfl, rfl⟩
  · rintro ⟨y, hy, -, p, hp, -⟩
    have : y = loose := by simpa [ending, exchanging, State.modSeg, State.setSeg] using hy
    subst this
    cases hp
  · decide +kernel

theorem witness_FailedAttemptsCount :
    ({ entry2 .meter .advance with attempts := 1 } : BusEntry).attempts < 2 ∧ (15 : Byte).toNat < 16 ∧
      (({ entry2 .meter .advance with attempts := 2 } : BusEntry).attempts = 2 ∧
        ({ entry2 .meter .advance with attempts := 2 } : BusEntry).recoded = false) ∧
      (exchanging base { entry2 .meter .advance with attempts := 1 } false).challenge.block ≠ .exhausted ∧
      (exchanging base { entry2 .meter .advance with attempts := 2 } true).challenge.block ≠ .exhausted := by
  decide

theorem witness_ExhaustedRunLosesTheBay :
    ((reading .ready 3 false).busEntry 2 .service = some { entry2 .service (.readBlock 63) with attempts := 3 } ∧
      3 ≤ ({ entry2 .service (.readBlock 63) with attempts := 3 } : BusEntry).attempts ∧
      (reading .ready 3 false).link.waiting = some (.cartRead 2 63) ∧
      ((reading .ready 3 false).bay 2).state = .ready ∧ ((reading .ready 3 false).bay 2).step = none ∧
      (reading .ready 3 false).challenge.block ≠ .exhausted) ∧
    ((reading .active 2 true).busEntry 2 .service =
        some { entry2 .service (.readBlock 63) with attempts := 2, recoded := true } ∧
      ((reading .active 2 true).bay 2).state = .active) := by
  exact ⟨⟨rfl, by decide, rfl, rfl, rfl, by decide⟩, rfl, rfl⟩

/-- Bay 2 holds a split write. -/
def splitting (st : EntryState) (k : EntryClass) (op : BusOp) : State :=
  let s := queued (withBay configured (held .ready))
    { entry2 k op with sent := true, state := st, split := some ⟨0, some 20000, 40000, false⟩ }
  { s with link := { s.link with
      intake := [⟨0x0C, 7, []⟩], waiting := some (.cartWrite 2 0 []), reserved := true } }

theorem witness_SplitWriteTimersAct :
    (∃ e, (splitting .waiting .service (.writeBlock 48 [])).splitEntry 2 = some e ∧ e.bay = 2 ∧ e.cls = .service ∧
      e.split = some ⟨0, some 20000, 40000, false⟩ ∧ e.state ≠ .onBus ∧ e.op = .writeBlock 48 []) ∧
    (∃ e, (splitting .onBus .meter .advance).splitEntry 2 = some e ∧ e.state = .onBus ∧
      e.split = some ⟨0, some 20000, 40000, false⟩) ∧
    (splitting .waiting .service (.writeBlock 48 [])).link.waiting = some (.cartWrite 2 0 []) ∧
    (splitting .waiting .service (.writeBlock 48 [])).link.intake = [⟨0x0C, 7, []⟩] := by
  exact ⟨⟨_, rfl, rfl, rfl, rfl, by decide, rfl⟩, ⟨_, rfl, rfl, rfl⟩, rfl, rfl⟩

/-! ## Witnesses: metering -/

/-- Channel 2 in a state, with one entry in hand. -/
def metering (st : ChanState) (m : Option DropModel) (b : Option Totals) (t : Totals) : State :=
  { (withBay (configured.modChan 2 (fun h => { h with state := st, active := some .a })) (held .active)).setMeter 2
      ⟨m, b, 700, 40000, 0, .zero, .zero⟩ with
    meterHand := [⟨2, 31, t⟩] }

theorem witness_DropEntryMovesTheBaseline :
    ((metering .serving none none ⟨1, 2, 3⟩).meterHand = ⟨2, 31, ⟨1, 2, 3⟩⟩ :: [] ∧
      ((metering .serving none none ⟨1, 2, 3⟩).meter 2).model = none) ∧
    (((metering .serving (some model45) none ⟨1, 2, 3⟩).meter 2).model = some model45 ∧
      ((metering .serving (some model45) none ⟨1, 2, 3⟩).meter 2).base = none) ∧
    (((metering .serving (some model45) (some ⟨1, 2, 3⟩) ⟨0x80000001, 2, 3⟩).meter 2).base = some ⟨1, 2, 3⟩ ∧
      2 ^ 31 ≤ ((0x80000001 : Word32) - 1).toNat) ∧
    (((metering .serving (some model45) (some ⟨1, 2, 3⟩) ⟨0x80000000, 1, 3⟩).meter 2).base = some ⟨1, 2, 3⟩ ∧
      ((0x80000000 : Word32) - 1).toNat < 2 ^ 31 ∧ 2 ^ 31 ≤ ((1 : Word32) - 2).toNat ∧
      ((2 : Word32) - 2).toNat < 2 ^ 31 ∧ ((3 : Word32) - 3).toNat < 2 ^ 31 ∧
      [(⟨3, 0, ⟨0, 0, 0⟩⟩ : DropEntry)] ≠ []) := by
  exact ⟨⟨rfl, rfl⟩, ⟨rfl, rfl⟩, ⟨rfl, by decide⟩, rfl, by decide, by decide, by decide, by decide, by decide⟩

theorem witness_MeteredDropsAreConserved (st : ChanState) :
    (metering st (some model45) (some ⟨1, 2, 3⟩) ⟨0x80000000, 2, 4⟩).meterHand = ⟨2, 31, ⟨0x80000000, 2, 4⟩⟩ :: [] ∧
      ((metering st (some model45) (some ⟨1, 2, 3⟩) ⟨0x80000000, 2, 4⟩).meter 2).model = some model45 ∧
      ((metering st (some model45) (some ⟨1, 2, 3⟩) ⟨0x80000000, 2, 4⟩).meter 2).base = some ⟨1, 2, 3⟩ ∧
      ((0x80000000 : Word32) - 1).toNat < 2 ^ 31 ∧ ((2 : Word32) - 2).toNat < 2 ^ 31 ∧
      ((4 : Word32) - 3).toNat < 2 ^ 31 ∧
      ((metering st (some model45) (some ⟨1, 2, 3⟩) ⟨0x80000000, 2, 4⟩).chan 2).state = st ∧
      ((metering st (some model45) (some ⟨1, 2, 3⟩) ⟨0x80000000, 2, 4⟩).chan 2).active = some .a ∧
      ((metering st (some model45) (some ⟨1, 2, 3⟩) ⟨0x80000000, 2, 4⟩).bay (sideBay 2 .a)).state ≠ .refused := by
  exact ⟨rfl, rfl, rfl, by decide, by decide, by decide, rfl, rfl, fun h => by cases h⟩

/-! ## Witnesses: the host link -/

/-- A frame with a right CRC. -/
def good (kind : Byte) (p : List Byte) : HostFrame := ⟨kind, 7, p, crc16 (u8 p.length :: kind :: 7 :: p)⟩

/-- A part that is assembling a frame. -/
def assembling (bs : List Byte) : State := { base with link := { base.link with framer := .assembling bs 9 } }

theorem witness_BadFramesAreCounted :
    base.phase ≠ .inReset ∧ 240 < (good 0x20 (List.replicate 241 0)).payload.length ∧
      (⟨1, 7, [], 0⟩ : HostFrame).crc ≠ crc16 [0, 1, 7] ∧ (assembling [3]).link.framer = .assembling [3] 9 ∧
      base.link.framer = .hunting ∧ base.transmitterBusy := by
  refine ⟨by decide, by decide +kernel, by decide +kernel, rfl, rfl, fun _ => ⟨rfl, rfl⟩⟩

/-- The intake, or the reply buffer, is full. -/
def loaded (n places : Nat) : State :=
  { base with link := { base.link with
      intake := List.replicate n ⟨1, 0, []⟩, replies := List.replicate places ⟨0, [], false⟩ } }

theorem witness_RequestJoinsTheIntakeOrIsRefused :
    ((good 6 [0]).payload.length ≤ 240 ∧ (good 6 [0]).crc = crc16 [1, 6, 7, 0] ∧ (good 6 [0]).kind = Req.hold.code ∧
      Req.hold.admits (good 6 [0]).payload.length = true ∧ (loaded 3 0).link.intake.length < 4) ∧
    (4 ≤ (loaded 4 5).link.intake.length ∧ 5 ≤ (loaded 4 5).link.placesTaken ∧ (loaded 4 4).link.placesTaken < 5) ∧
    ((good 6 []).kind = Req.hold.code ∧ Req.hold.admits (good 6 []).payload.length = false) ∧
    ((good 0x80 []).kind ≠ 0x20 ∧ ∀ r : Req, (good 0x80 []).kind ≠ r.code) := by
  refine ⟨⟨by decide, by decide +kernel, rfl, rfl, by decide⟩, ⟨by decide, by decide, by decide⟩, ⟨rfl, rfl⟩, by decide, ?_⟩
  intro r
  cases r <;> decide

/-- The 14 bytes of a report entry whose temperature and totals are 0. -/
def reported (chan : Byte) : List Byte := chan :: List.replicate 13 0

def entryFor (c : ChanId) : DropEntry := ⟨c, 0, ⟨0, 0, 0⟩⟩

theorem witness_DropReportJoinsTheQueue :
    ((good 0x20 (reported 0)).kind = 0x20 ∧ (good 0x20 (reported 0)).payload.length ≤ 240 ∧
      readReport (reported 0) = some ([entryFor 0].map some) ∧
      ([entryFor 0].map (fun e => e.chan)).Nodup ∧ base.meterQueue.length < 16 ∧
      base.meterHand = [] ∧ base.meterQueue = [] ∧ ({ base with meterHand := [entryFor 0] } : State).meterHand ≠ []) ∧
    (readReport (reported 5 ++ reported 12 ++ reported 5) = some [some (entryFor 5), none, some (entryFor 5)] ∧
      base.link.ignoredEntries.value ≤ 65535) ∧
    ({ base with meterQueue := List.replicate 15 [] ++ [[entryFor 0, entryFor 1]] } : State).meterQueue =
      List.replicate 15 [] ++ [[entryFor 0, entryFor 1]] ∧
    (List.replicate 13 (0 : Byte)).length % 14 ≠ 0 ∧ ([] : List Byte).length = 0 ∧
      168 < (List.replicate 182 (0 : Byte)).length := by
  refine ⟨⟨rfl, by decide, by decide +kernel, List.nodup_singleton _, by decide, rfl, rfl, by decide⟩,
    ⟨by decide +kernel, by decide⟩, rfl, by decide, rfl, ?_⟩
  decide +kernel

theorem witness_BytesSpellTheFrame :
    base.phase ≠ .inReset ∧ base.transmitterBusy ∧ base.link.framer = .hunting ∧
      (good 6 (List.replicate 240 0)).payload.length ≤ 240 ∧ (assembling []).link.framer = .assembling [] 9 ∧
      (240 : Byte).toNat ≤ 240 ∧ 240 < (241 : Byte).toNat ∧
      (assembling [1, 2, 3, 4]).link.framer = .assembling [1, 2, 3, 4] 9 ∧
      [(2 : Byte), 3, 4].length + 2 < (1 : Byte).toNat + 5 := by
  refine ⟨by decide, fun _ => ⟨rfl, rfl⟩, rfl, ?_, rfl, by decide, by decide, rfl, by decide⟩
  decide +kernel

/-- The transmitter is sending. -/
def transmitting (restart : Bool) (replies : List Reply) (notices : List Notice) (backlog : List BacklogFlag) : State :=
  { base with link := { base.link with
      tx := some ⟨[], false, restart⟩, replies := replies, notices := notices, backlog := backlog } }

theorem witness_TransmitterSendsTheNextFrame (r : Bool) (rs : List Reply) (ns : List Notice) (ks : List BacklogFlag) :
    (transmitting r rs ns ks).link.tx = some ⟨[], false, r⟩ ∧ (⟨[], false, r⟩ : TxFrame).restart = r ∧
      (transmitting r rs ns ks).link.replies = rs ∧ (transmitting r rs ns ks).link.notices = ns ∧
      (transmitting r rs ns ks).link.backlog = ks ∧ (transmitting r rs ns ks).phase ≠ .inReset := by
  exact ⟨rfl, rfl, rfl, rfl, rfl, fun h => by cases h⟩

/-! ## Witnesses: requests -/

/-- A request of any kind can be executed. -/
theorem witness_executable (s : State) (r : Req) (p : List Byte) (h1 : s.phase = .running)
    (h2 : s.link.waiting = none) (h3 : s.link.replies = []) (h4 : s.link.tx = none) (h5 : s.link.reserved = false) :
    (asking s r p).executable r ⟨r.code, 7, p⟩ [] := by
  refine ⟨h1, h2, rfl, rfl, ?_⟩
  simp [asking, LinkUnit.placesTaken, h3, h4, h5, Config.replyPlaces]

theorem witness_QueriesOnlyAnswer :
    (asking base .partStatus []).executable .partStatus ⟨1, 7, []⟩ [] ∧
      ((asking base .channelQuery [11]).executable .channelQuery ⟨4, 7, [11]⟩ [] ∧
        (11 : Byte).toNat = (11 : ChanId).val ∧ 11 < (12 : Byte).toNat) ∧
      ((asking base .bayQuery [23]).executable .bayQuery ⟨5, 7, [23]⟩ [] ∧
        (23 : Byte).toNat = (23 : BayId).val ∧ 23 < (24 : Byte).toNat) :=
  ⟨witness_executable _ _ _ rfl rfl rfl rfl rfl, ⟨witness_executable _ _ _ rfl rfl rfl rfl rfl, by decide, by decide⟩,
    witness_executable _ _ _ rfl rfl rfl rfl rfl, by decide, by decide⟩

theorem witness_HistoryReadShowsTheEntry :
    (asking (storing [seen] []) .historyRead [0]).executable .historyRead ⟨0x0D, 7, [0]⟩ [] ∧
      (asking (storing [seen] []) .historyRead [0]).hist.table[(0 : Byte).toNat]? = some seen ∧
      (63 : Byte).toNat ≤ 63 ∧ (storing [seen] []).hist.table.length ≤ (63 : Byte).toNat ∧ 63 < (64 : Byte).toNat :=
  ⟨witness_executable _ _ _ rfl rfl rfl rfl rfl, rfl, by decide, by decide, by decide⟩

theorem witness_KeyCheckShowsTheCheckValue :
    (asking base .keyCheck [0]).executable .keyCheck ⟨0x0A, 7, [0]⟩ [] ∧ (0 : Byte).toNat = (0 : Fin 4).val ∧
      base.store.keys[(0 : Fin 4).val] = some key1 ∧ base.store.keys[(3 : Fin 4).val] = none ∧ 3 < (4 : Byte).toNat :=
  ⟨witness_executable _ _ _ rfl rfl rfl rfl rfl, rfl, rfl, rfl, by decide⟩

theorem witness_HoldAddsTheHostCause :
    (asking configured .hold [2]).executable .hold ⟨6, 7, [2]⟩ [] ∧ (2 : Byte).toNat = (2 : ChanId).val ∧
      (configured.chan 2).causes.host = false ∧ 11 < (12 : Byte).toNat ∧
      ((configured.modChan 2 (fun h => { h with causes := { h.causes with host := true } })).chan 2).causes.host =
        true :=
  ⟨witness_executable _ _ _ rfl rfl rfl rfl rfl, by decide, rfl, by decide, rfl⟩

theorem witness_ReleaseRemovesHostAndLatch :
    (asking configured .release [2]).executable .release ⟨7, 7, [2]⟩ [] ∧ (2 : Byte).toNat = (2 : ChanId).val ∧
      (configured.chan 2).causes.latch = false ∧
      ((configured.modChan 2 (fun h => { h with causes := { h.causes with latch := true } })).chan 2).causes.latch =
        true :=
  ⟨witness_executable _ _ _ rfl rfl rfl rfl rfl, by decide, rfl, rfl⟩

theorem witness_SetPartAppliesOrRefuses :
    (asking (storing [seen] []) .setPart [254, 255, 1]).executable .setPart ⟨2, 7, [254, 255, 1]⟩ [] ∧
      (1 ≤ (254 : Byte).toNat ∧ (254 : Byte).toNat ≤ 254 ∧ (254 : Byte).toNat < (255 : Byte).toNat ∧ (1 : Byte) ≠ 0) ∧
      (storing [seen] []).pinnedBy 2 = some seen ∧ (storing [seen] []).serialsDistinct ∧
      ((0 : Byte) = 0 ∧ (255 : Byte) = 255 ∧ (8 : Byte).toNat ≤ (8 : Byte).toNat) :=
  ⟨witness_executable _ _ _ rfl rfl rfl rfl rfl, by decide, rfl, List.nodup_singleton _, by decide⟩

/-- CONFIGURE CHANNEL's payload for channel 2, with four of its bytes. -/
def cfgBytes (chan colour ng rf : Byte) : List Byte :=
  [chan, colour, 0, 250, 2, 88, 5, 120, 5, 10, 3, 5, 10, 20, ng, rf, 1, 15, 20, 20]

theorem witness_ConfigureTestsItsArguments :
    ((asking configured .configureChannel (cfgBytes 12 5 0 0)).executable .configureChannel
        ⟨3, 7, cfgBytes 12 5 0 0⟩ [] ∧ (cfgBytes 12 5 0 0).length = 20 ∧ 11 < (byteAt (cfgBytes 12 5 0 0) 0).toNat ∧
      1 < (byteAt (cfgBytes 2 5 2 0) 14).toNat ∧ 2 < (byteAt (cfgBytes 2 5 0 3) 15).toNat ∧
      (byteAt (cfgBytes 2 0 0 0) 1).toNat = 0 ∧ 63 < (byteAt (cfgBytes 2 64 0 0) 1).toNat) ∧
    ((withBay configured (held .ready)).chan 2).config = some cfg ∧
      cfg.colour.toNat ≠ (byteAt (cfgBytes 2 63 1 2) 1).toNat ∧
      ((withBay configured (held .ready)).bay (sideBay 2 .a)).state ≠ .empty :=
  ⟨⟨witness_executable _ _ _ rfl rfl rfl rfl rfl, rfl, by decide, by decide, by decide, by decide, by decide⟩, rfl,
    by decide, by decide +kernel⟩

theorem witness_FirstConfigurationStarvesTheChannel :
    (asking base .configureChannel (cfgBytes 2 63 1 2)).executable .configureChannel ⟨3, 7, cfgBytes 2 63 1 2⟩ [] ∧
      (cfgBytes 2 63 1 2).length = 20 ∧ (byteAt (cfgBytes 2 63 1 2) 0).toNat = (2 : ChanId).val ∧
      (byteAt (cfgBytes 2 63 1 2) 14).toNat ≤ 1 ∧ (byteAt (cfgBytes 2 63 1 2) 15).toNat ≤ 2 ∧
      (byteAt (cfgBytes 2 63 1 2) 16).toNat ≤ 1 ∧ 1 ≤ (byteAt (cfgBytes 2 63 1 2) 1).toNat ∧
      (byteAt (cfgBytes 2 63 1 2) 1).toNat ≤ 63 ∧ (base.chan 2).config = none :=
  ⟨witness_executable _ _ _ rfl rfl rfl rfl rfl, rfl, by decide, by decide, by decide, by decide, by decide, by decide,
    rfl⟩

theorem witness_KeyRequestsWaitForTheirSave :
    (asking base .loadKey (3 :: List.replicate 16 0)).executable .loadKey ⟨8, 7, 3 :: List.replicate 16 0⟩ [] ∧
      (List.replicate 16 (0 : Byte)).length = 16 ∧ (3 : Byte).toNat = (3 : Fin 4).val ∧ base.store.locked = false ∧
      3 < (4 : Byte).toNat ∧ (asking base .lockKeys []).executable .lockKeys ⟨9, 7, []⟩ [] ∧
      ({ base.store with locked := true } : Store).locked = true :=
  ⟨witness_executable _ _ _ rfl rfl rfl rfl rfl, rfl, by decide, rfl, by decide,
    witness_executable _ _ _ rfl rfl rfl rfl rfl, rfl⟩

theorem witness_CartRequestsQueueTheirBlock :
    ((asking (withBay configured (held .ready)) .cartRead [2, 63]).executable .cartRead ⟨0x0B, 7, [2, 63]⟩ [] ∧
      (2 : Byte).toNat = (2 : BayId).val ∧ (63 : Byte).toNat ≤ 63 ∧ 63 < (64 : Byte).toNat ∧ 23 < (24 : Byte).toNat) ∧
    (((withBay configured (held .ready)).bay 2).identity ≠ none ∧
      ((withBay configured (held .ready)).bay 2).step = none ∧
      ((withBay configured (held .lost)).bay 2).state = .lost ∧ (configured.bay 2).identity = none) ∧
    ((asking base .cartWrite (2 :: 56 :: List.replicate 64 0)).executable .cartWrite
        ⟨0x0C, 7, 2 :: 56 :: List.replicate 64 0⟩ [] ∧ (List.replicate 64 (0 : Byte)).length % 8 = 0 ∧
      8 ≤ (List.replicate 64 (0 : Byte)).length ∧ (List.replicate 64 (0 : Byte)).length ≤ 64 ∧
      (56 : Byte).toNat + (List.replicate 64 (0 : Byte)).length / 8 ≤ 64 ∧ (47 : Byte).toNat < 48 ∧
      64 < (57 : Byte).toNat + (List.replicate 64 (0 : Byte)).length / 8) := by
  refine ⟨⟨witness_executable _ _ _ rfl rfl rfl rfl rfl, by decide, by decide, by decide, by decide⟩,
    ⟨by decide +kernel, rfl, rfl, rfl⟩, witness_executable _ _ _ rfl rfl rfl rfl rfl, ?_⟩
  simp

theorem witness_ForgetTakesTheEntryOut :
    ((asking (storing [loose] []) .historyForget (beBytes 8 cart.serial.toNat)).executable .historyForget
        ⟨0x0E, 7, beBytes 8 cart.serial.toNat⟩ [] ∧ (beBytes 8 cart.serial.toNat).length = 8 ∧
      (storing [loose] []).entryOf? (BitVec.ofNat 64 (beNat (beBytes 8 cart.serial.toNat))) = some loose ∧
      loose.pin = none) ∧
    ((storing [seen] []).entryOf? (BitVec.ofNat 64 (beNat (beBytes 8 cart.serial.toNat))) = some seen ∧
      seen.pin.isSome = true) ∧
    ∀ e ∈ (storing [] []).hist.table, e.data.serial ≠ cart.serial :=
  ⟨⟨witness_executable _ _ _ rfl rfl rfl rfl rfl, rfl, rfl, rfl⟩, ⟨rfl, rfl⟩, fun _ h => absurd h (List.not_mem_nil)⟩

theorem witness_CountersReadClearsItsScope :
    (asking base .countersRead [23]).executable .countersRead ⟨0x0F, 7, [23]⟩ [] ∧
      (23 : Byte).toNat = (23 : BayId).val ∧ (75 : Byte).toNat = 64 + (11 : ChanId).val ∧ (0x80 : Byte) = 0x80 ∧
      (24 ≤ (76 : Byte).toNat ∧ ¬ (64 ≤ (76 : Byte).toNat ∧ (76 : Byte).toNat < 76) ∧ (76 : Byte) ≠ 0x80) :=
  ⟨witness_executable _ _ _ rfl rfl rfl rfl rfl, by decide, by decide, rfl, by decide⟩

/-! ## Witnesses: what every step keeps -/

/-- A part in service with a command waiting: a channel configured, an entry, a notice being sent. -/
def serving : State :=
  { storing [seen] [] with pending := [.hold], link := { base.link with tx := some ⟨[], true, false⟩ } }

theorem witness_invariants :
    (∃ t, step serving = .next t) ∧ serving.channelsFit ∧ serving.serialsDistinct ∧ serving.noticesFit ∧
      serving.noncesSafe ∧ serving.keyWorkFits ∧ serving.transmitterBusy := by
  refine ⟨⟨_, rfl⟩, ?_, List.nodup_singleton _, ⟨by decide, fun h => absurd rfl h, List.Pairwise.nil⟩, ?_, ?_, ?_⟩
  · intro c
    have k : serving.chan c = Channel.reset := by
      simp [serving, storing, base, State.reset, State.chan]
    rw [k]
    exact ⟨fun _ => rfl, fun h => (by cases h), fun h => (by cases h)⟩
  · refine ⟨fun _ => ⟨by decide, by decide, rfl⟩, fun l h => absurd h (List.not_mem_nil), by decide, ?_⟩
    intro h
    rcases h with h | h <;> cases h
  · exact ⟨by decide, fun h => absurd rfl h⟩
  · intro h
    cases h

/-- A locked part with a LOAD KEY at the front of its queue. -/
def locked : State := { serving with store := { serving.store with locked := true }, pending := [.loadKey] }

theorem witness_locked : (∃ t, step locked = .next t) ∧ locked.keyWorkFits ∧ locked.store.locked = true :=
  ⟨⟨_, rfl⟩, ⟨by decide, fun h => absurd rfl h⟩, rfl⟩

/-! ## Small steps -/

/-- R25, R27: the first SET CODE after a reset carries code 1 to slot 15. -/
theorem test_first_set_code :
    (out (exec (.arbiterTake .l) (base.modSeg .l (fun g => { g with setCode := some ⟨false⟩ })))).map
      (fun t => (t.segL.code, (t.segL.exchange.map (fun x => x.bytes.take 3)))) = some (1, some [1, 0xF0, 0]) := by
  decide +kernel

/-- 4.5: the entry of the worked example debits 5661 nl to the active bay. -/
theorem test_worked_debit :
    (out (exec .takeDropEntry
      (metering .serving (some model45) (some ⟨0, 0, 0⟩) ⟨1200000, 300000, 50000⟩))).map
      (fun t => ((t.bay 2).owing, (t.meter 2).rt, (t.meter 2).rv)) = some (5661, 956, 53281) := by decide +kernel

/-- R29: a POLL answered REFUSED has no admissible length. -/
theorem test_poll_refused_is_malformed :
    judgeReply .advance true (let b : List Byte := [7, 0x2B, 0x5E]; b ++ [crc8 b]) = .malformed := by decide

/-- R93: a backlogged LEVEL notice of a bay that was emptied has the bay index alone, whatever the bay holds by then; of
one that was not, COUNTED_OUT comes from the record. -/
theorem test_emptied_level_notice :
    (let s := withBay configured { held .ready with countedOut := true }
     [(⟨.level 2, false⟩ : BacklogFlag), BacklogFlag.noteEmptied 2 ⟨.level 2, false⟩].map
       (fun f => (s.noticePayload (s.drainedNotice f)).take 10)) =
      [[2, 1, 0, 0, 0xA1, 4, 0, 0, 0, 0x71], [2, 0, 0, 0, 0, 0, 0, 0, 0, 0]] := by decide +kernel

/-- R43: a removed cartridge's chip is never addressed: ARBITER_TAKE on an empty queue sends nothing. -/
theorem test_empty_queue_sends_nothing :
    (out (exec (.arbiterTake .r) base)).map (fun t => t.segR.exchange) = some none := by decide +kernel

end Sys2Proof.Tests
end

/-! The answer of KEY CHECK (R50). -/

namespace Sys2Proof.Machine

/-! ## The payload's slot number -/

/-- A byte is the byte of its own value. -/
@[simp] theorem u8_toNat (n : Byte) : u8 n.toNat = n := by simp [u8]

@[simp] theorem byteAt_cons_zero (n : Byte) (p : List Byte) : byteAt (n :: p) 0 = n := rfl

theorem readSlot_eq_some {n : Byte} {slot : Fin 4} : readSlot n = some slot ↔ n.toNat = slot.val := by
  unfold readSlot
  split
  · simp [Fin.ext_iff]
  · next h =>
    have hne : n.toNat ≠ slot.val := fun k => h (k ▸ slot.isLt)
    simp [hne]

theorem readSlot_eq_none {n : Byte} : readSlot n = none ↔ 3 < n.toNat := by
  unfold readSlot
  split
  · next h => simpa using Nat.le_of_lt_succ h
  · next h => simpa using Nat.lt_of_succ_le (Nat.le_of_not_lt h)

/-! ## KEY CHECK, case by case (R50) -/

section
variable (s : State) {n : Byte} {p : List Byte}

theorem State.keyCheck_of_slot_gt (h : 3 < n.toNat) : s.keyCheck (n :: p) = s.finishRequest .badArgument [] false := by
  simp [State.keyCheck, readSlot_eq_none.mpr h, State.refuseRequest]

theorem State.keyCheck_of_slot_empty {slot : Fin 4} (h : n.toNat = slot.val) (hk : s.store.keys[slot.val] = none) :
    s.keyCheck (n :: p) = s.finishRequest .emptySlot [] false := by
  simp [State.keyCheck, readSlot_eq_some.mpr h, hk, State.refuseRequest]

theorem State.keyCheck_of_slot_loaded {slot : Fin 4} {k : Key} (h : n.toNat = slot.val)
    (hk : s.store.keys[slot.val] = some k) :
    s.keyCheck (n :: p) = s.finishRequest .ok (n :: beBytes 8 (checkFn k [0]).toNat) false := by
  have hslot : u8 slot.val = n := h ▸ u8_toNat n
  simp [State.keyCheck, readSlot_eq_some.mpr h, hk, State.answerOk, keyCheckValue, hslot]

/-- The KEY_CHECK command executes the request that R154 lets it take. -/
theorem exec_keyCheck_of_executable {q : Request} {rest : List Request} (h : s.executable .keyCheck q rest) :
    exec .keyCheck s = .next (s.reserve.keyCheck q.payload).transmit := by
  have hready : s.requestReady .keyCheck = some q := s.requestReady_eq_some.mpr ⟨rest, h⟩
  calc exec .keyCheck s = execKeyCheck s := rfl
    _ = .next (s.reserve.keyCheck q.payload).transmit := by simp [execKeyCheck, hready]

end

/-- Settles O45: each case ends the request at once with its own answer, and the end of a request only answers. -/
theorem keyCheckShowsTheCheckValue : Obligations.KeyCheckShowsTheCheckValue := by
  unfold Obligations.KeyCheckShowsTheCheckValue
  intro s q rest n p hex hp
  have hexec : exec .keyCheck s = .next (s.reserve.keyCheck (n :: p)).transmit :=
    hp ▸ exec_keyCheck_of_executable s hex
  refine ⟨_, hexec, ?_, ?_, ?_⟩
  · intro hn
    rw [s.reserve.keyCheck_of_slot_gt hn]
    exact s.finish_onlyAnswered hex _ _ _
  · intro slot hn hk
    rw [s.reserve.keyCheck_of_slot_empty hn hk]
    exact s.finish_onlyAnswered hex _ _ _
  · intro slot k hn hk
    rw [s.reserve.keyCheck_of_slot_loaded hn hk]
    exact s.finish_onlyAnswered hex _ _ _

end Sys2Proof.Machine

/-! HOLD and RELEASE (R110, R111): each replaces a channel's hold-cause set and answers with the channel. -/

namespace Sys2Proof.Machine

/-! ## The payload's channel number -/

theorem readChan_eq_some {n : Byte} {c : ChanId} : readChan n = some c ↔ n.toNat = c.val := by
  unfold readChan
  split
  · simp [Fin.ext_iff]
  · next h =>
    have hne : n.toNat ≠ c.val := fun k => h (k ▸ c.isLt)
    simp [hne]

theorem readChan_eq_none {n : Byte} : readChan n = none ↔ 11 < n.toNat := by
  unfold readChan
  split
  · next h => simpa using Nat.le_of_lt_succ h
  · next h => simpa using Nat.lt_of_succ_le (Nat.le_of_not_lt h)

/-! ## The sets of HOLD and RELEASE -/

/-- HOLD leaves the set as it stands exactly when HOST is in it. -/
theorem HoldCauses.eq_addHost_iff (k : HoldCauses) : k = { k with host := true } ↔ k.host = true := by
  cases k
  simp

/-- RELEASE leaves the set as it stands exactly when neither HOST nor LATCH is in it. -/
theorem HoldCauses.eq_dropHostLatch_iff (k : HoldCauses) :
    k = { k with host := false, latch := false } ↔ k.host = false ∧ k.latch = false := by
  cases k
  simp

/-! ## A change of notices only leaves requests and replies alone -/

theorem NoteOnly.intake {a b : LinkUnit} (h : NoteOnly a b) : b.intake = a.intake :=
  (congrArg LinkUnit.intake h.eq :)

theorem NoteOnly.tx {a b : LinkUnit} (h : NoteOnly a b) : b.tx = a.tx := (congrArg LinkUnit.tx h.eq :)

theorem NoteOnly.replyFrames {a b : LinkUnit} (h : NoteOnly a b) : b.replyFrames = a.replyFrames :=
  (congrArg LinkUnit.replyFrames h.eq :)

/-! ## Replacing a channel's hold-cause set -/

section
variable (s : State) (c : ChanId) (h : HoldCauses)

theorem State.setCauses_of_eq (e : (s.chan c).causes = h) : s.setCauses c h = s := by
  simp [State.setCauses, e]

theorem State.setCauses_of_ne (e : (s.chan c).causes ≠ h) :
    s.setCauses c h = (s.modChan c (fun x => { x with causes := h })).raise (.channel c) := by
  simp [State.setCauses, e]

@[simp] theorem State.chan_setCauses : (s.setCauses c h).chan c = { s.chan c with causes := h } := by
  by_cases e : (s.chan c).causes = h
  · rw [s.setCauses_of_eq c h e, ← e]
  · rw [s.setCauses_of_ne c h e]
    simp

theorem State.otherChans_setCauses : s.otherChans (s.setCauses c h) c := by
  intro d hd
  by_cases e : (s.chan c).causes = h
  · rw [s.setCauses_of_eq c h e]
  · rw [s.setCauses_of_ne c h e, State.chan_raise, s.chan_modChan_ne hd]

/-- Only the channels and the Link Interface differ. -/
theorem State.setCauses_eq :
    s.setCauses c h = { s with chans := (s.setCauses c h).chans, link := (s.setCauses c h).link } := by
  by_cases e : (s.chan c).causes = h
  · rw [s.setCauses_of_eq c h e]
  · rw [s.setCauses_of_ne c h e, State.raise_eq]
    rfl

/-- In the Link Interface only the notices and their flags differ. -/
theorem State.noteOnly_setCauses : NoteOnly s.link (s.setCauses c h).link := by
  by_cases e : (s.chan c).causes = h
  · rw [s.setCauses_of_eq c h e]
    exact NoteOnly.refl _
  · rw [s.setCauses_of_ne c h e]
    exact (s.modChan c _).noteOnly_raise _

/-- A change of the set raises the channel's notice. -/
theorem State.told_setCauses (e : (s.chan c).causes ≠ h) : Told (s.setCauses c h).link (.channel c) := by
  rw [s.setCauses_of_ne c h e]
  exact State.told_raise _

/-! ## The event that replaces the set and answers -/

/-- What the event of a HOLD or a RELEASE of channel `c` leaves, with `h` as the new hold-cause set. -/
def State.answerCauses : State :=
  ((s.reserve.setCauses c h).answerOk ((s.reserve.setCauses c h).holdFields c)).transmit

theorem State.answerCauses_chans : (s.answerCauses c h).chans = (s.reserve.setCauses c h).chans := by
  unfold State.answerCauses State.answerOk
  rw [State.transmit_eq]
  exact State.finishRequest_chans _ _ _ _

theorem State.chan_answerCauses (d : ChanId) : (s.answerCauses c h).chan d = (s.reserve.setCauses c h).chan d := by
  simp [State.chan, s.answerCauses_chans c h]

theorem State.answerCauses_chan : (s.answerCauses c h).chan c = { s.chan c with causes := h } := by
  simp [State.chan_answerCauses]

theorem State.answerCauses_holdLine : (s.answerCauses c h).holdLine c = h.any := by
  simp [State.holdLine, State.answerCauses_chan]

theorem State.answerCauses_otherChans : s.otherChans (s.answerCauses c h) c := fun d hd =>
  (s.chan_answerCauses c h d).trans (s.reserve.otherChans_setCauses c h d hd)

theorem State.answerCauses_notified (e : (s.chan c).causes ≠ h) : s.notified (s.answerCauses c h) (.channel c) := by
  have htold : Told (s.reserve.setCauses c h).link (.channel c) := s.reserve.told_setCauses c h e
  have htx : (s.reserve.setCauses c h).link.tx = s.link.tx := (s.reserve.noteOnly_setCauses c h).tx
  refine State.told_transmit ?_ ?_
  · simpa [Told, LinkUnit.holdsNotice, State.answerOk] using htold
  · simpa [State.answerOk] using htx

section
variable {r : Req} {q : Request} {rest : List Request}

theorem State.answerCauses_eq_finish : s.answerCauses c h =
    ((s.reserve.setCauses c h).finishRequest .ok [(s.chan c).state.code, h.code] false).transmit := by
  simp [State.answerCauses, State.answerOk, State.holdFields]

theorem State.setCauses_intake (hex : s.executable r q rest) : (s.reserve.setCauses c h).link.intake = q :: rest := by
  obtain ⟨-, -, hintake, -, -⟩ := hex
  exact (s.reserve.noteOnly_setCauses c h).intake.trans hintake

theorem State.answerCauses_answered (hex : s.executable r q rest) :
    s.answered (s.answerCauses c h) q rest .ok [(s.chan c).state.code, h.code] := by
  obtain ⟨heq, hframes⟩ := (s.reserve.setCauses c h).finish_transmit (s.setCauses_intake c h hex) .ok
    [(s.chan c).state.code, h.code] false
  have hbefore : (s.reserve.setCauses c h).link.replyFrames = s.link.replyFrames :=
    (s.reserve.noteOnly_setCauses c h).replyFrames
  rw [s.answerCauses_eq_finish c h]
  exact ⟨by rw [heq], by rw [heq], by rw [heq], hframes.trans (by rw [hbefore])⟩

/-- Nothing but the channels and the Link Interface differs. -/
theorem State.answerCauses_eq (hex : s.executable r q rest) :
    s.answerCauses c h = { s with chans := (s.answerCauses c h).chans, link := (s.answerCauses c h).link } := by
  obtain ⟨heq, -⟩ := (s.reserve.setCauses c h).finish_transmit (s.setCauses_intake c h hex) .ok
    [(s.chan c).state.code, h.code] false
  rw [s.answerCauses_eq_finish c h, heq, s.reserve.setCauses_eq c h]
  rfl

/-- With the set as it stands the event only answers. -/
theorem State.answerCauses_unchanged (hex : s.executable r q rest) (e : (s.chan c).causes = h) :
    (s.answerCauses c h).chans = s.chans ∧ s.link.onlyAnswers (s.answerCauses c h).link := by
  have hset : s.reserve.setCauses c h = s.reserve := s.reserve.setCauses_of_eq c h e
  obtain ⟨-, -, honly⟩ := s.finish_onlyAnswered hex .ok (s.reserve.holdFields c) false
  refine ⟨?_, ?_⟩
  · rw [s.answerCauses_chans c h, hset]
    rfl
  · rwa [State.answerCauses, hset]

end

/-! ## HOLD and RELEASE, case by case -/

variable {s c} {n : Byte} {q : Request} {rest : List Request} {p : List Byte}

theorem exec_hold_of_executable (hex : s.executable .hold q rest) :
    exec .hold s = .next (s.reserve.holdChannel q.payload).transmit := by
  have hready : s.requestReady .hold = some q := s.requestReady_eq_some.mpr ⟨rest, hex⟩
  calc exec .hold s = execHold s := rfl
    _ = .next (s.reserve.holdChannel q.payload).transmit := by simp [execHold, hready]

theorem exec_release_of_executable (hex : s.executable .release q rest) :
    exec .release s = .next (s.reserve.releaseChannel q.payload).transmit := by
  have hready : s.requestReady .release = some q := s.requestReady_eq_some.mpr ⟨rest, hex⟩
  calc exec .release s = execRelease s := rfl
    _ = .next (s.reserve.releaseChannel q.payload).transmit := by simp [execRelease, hready]

theorem State.holdChannel_of_gt (hn : 11 < n.toNat) :
    s.holdChannel (n :: p) = s.finishRequest .badArgument [] false := by
  simp [State.holdChannel, readChan_eq_none.mpr hn, State.refuseRequest]

theorem State.releaseChannel_of_gt (hn : 11 < n.toNat) :
    s.releaseChannel (n :: p) = s.finishRequest .badArgument [] false := by
  simp [State.releaseChannel, readChan_eq_none.mpr hn, State.refuseRequest]

theorem State.holdChannel_transmit_of_chan (hn : n.toNat = c.val) :
    (s.reserve.holdChannel (n :: p)).transmit = s.answerCauses c { (s.chan c).causes with host := true } := by
  simp [State.holdChannel, readChan_eq_some.mpr hn, State.answerCauses]

theorem State.releaseChannel_transmit_of_chan (hn : n.toNat = c.val) :
    (s.reserve.releaseChannel (n :: p)).transmit =
      s.answerCauses c { (s.chan c).causes with host := false, latch := false } := by
  simp [State.releaseChannel, readChan_eq_some.mpr hn, State.answerCauses]

end

/-- Settles O46: the event answers with HOST added to the set, which is a change exactly when HOST was not in it. -/
theorem holdAddsTheHostCause : Obligations.HoldAddsTheHostCause := by
  unfold Obligations.HoldAddsTheHostCause
  intro s q rest n p hex hp
  refine ⟨_, hp ▸ exec_hold_of_executable hex, fun hn => ?_, fun c hn => ?_⟩
  · rw [State.holdChannel_of_gt hn]
    exact s.finish_onlyAnswered hex _ _ _
  · rw [State.holdChannel_transmit_of_chan hn]
    have hsame := (s.chan c).causes.eq_addHost_iff
    refine ⟨s.answerCauses_chan c _, ?_, s.answerCauses_otherChans c _, s.answerCauses_eq c _ hex,
      s.answerCauses_answered c _ hex, ?_, ?_⟩
    · simp [State.answerCauses_holdLine, HoldCauses.any]
    · intro hhost
      exact s.answerCauses_notified c _ (fun e => by simp [hsame.mp e] at hhost)
    · intro hhost
      exact s.answerCauses_unchanged c _ hex (hsame.mpr hhost)

/-- Settles O47: the event answers with HOST and LATCH taken from the set, which is a change exactly when one of the two
was in it. -/
theorem releaseRemovesHostAndLatch : Obligations.ReleaseRemovesHostAndLatch := by
  unfold Obligations.ReleaseRemovesHostAndLatch
  intro s q rest n p hex hp
  refine ⟨_, hp ▸ exec_release_of_executable hex, fun hn => ?_, fun c hn => ?_⟩
  · rw [State.releaseChannel_of_gt hn]
    exact s.finish_onlyAnswered hex _ _ _
  · rw [State.releaseChannel_transmit_of_chan hn]
    have hsame := (s.chan c).causes.eq_dropHostLatch_iff
    refine ⟨s.answerCauses_chan c _, ?_, s.answerCauses_otherChans c _, s.answerCauses_eq c _ hex,
      s.answerCauses_answered c _ hex, ?_, ?_⟩
    · simp [State.answerCauses_holdLine, HoldCauses.any]
    · intro hin
      exact s.answerCauses_notified c _ (fun e => by simp [hsame.mp e] at hin)
    · intro hhost hlatch
      exact s.answerCauses_unchanged c _ hex (hsame.mpr ⟨hhost, hlatch⟩)

end Sys2Proof.Machine

/-! HISTORY READ (R147): the entry at a list position of the working table. -/

namespace Sys2Proof.Machine

/-! ## HISTORY READ, case by case -/

section
variable (s : State) {n : Byte} {p : List Byte}

theorem State.historyRead_of_gt (h : 63 < n.toNat) :
    s.historyRead (n :: p) = s.finishRequest .badArgument [] false := by
  simp [State.historyRead, h, State.refuseRequest]

theorem State.historyRead_of_empty (h : n.toNat ≤ 63) (hlen : s.hist.table.length ≤ n.toNat) :
    s.historyRead (n :: p) = s.finishRequest .ok (n :: 0 :: List.replicate 40 0) false := by
  have hnone : s.hist.table[n.toNat]? = none := List.getElem?_eq_none hlen
  simp [State.historyRead, Nat.not_lt.mpr h, hnone, State.answerOk, entryBytes]

theorem State.historyRead_of_entry {e : Entry} (h : n.toNat ≤ 63) (he : s.hist.table[n.toNat]? = some e) :
    s.historyRead (n :: p) = s.finishRequest .ok (n :: 1 :: e.fields) false := by
  simp [State.historyRead, Nat.not_lt.mpr h, he, State.answerOk]

/-- The HISTORY_READ command executes the request that R154 lets it take. -/
theorem exec_historyRead_of_executable {q : Request} {rest : List Request} (h : s.executable .historyRead q rest) :
    exec .historyRead s = .next (s.reserve.historyRead q.payload).transmit := by
  have hready : s.requestReady .historyRead = some q := s.requestReady_eq_some.mpr ⟨rest, h⟩
  calc exec .historyRead s = execHistoryRead s := rfl
    _ = .next (s.reserve.historyRead q.payload).transmit := by simp [execHistoryRead, hready]

end

/-- Settles O44: each of the three cases ends the request at once with its own answer, and the end of a request only
answers; the place that the command reserves first leaves the table as it is. -/
theorem historyReadShowsTheEntry : Obligations.HistoryReadShowsTheEntry := by
  unfold Obligations.HistoryReadShowsTheEntry
  intro s q rest n p hex hp
  have hexec : exec .historyRead s = .next (s.reserve.historyRead (n :: p)).transmit :=
    hp ▸ exec_historyRead_of_executable s hex
  refine ⟨_, hexec, ?_, ?_, ?_⟩
  · intro hn
    rw [s.reserve.historyRead_of_gt hn]
    exact s.finish_onlyAnswered hex _ _ _
  · intro hn hlen
    rw [s.reserve.historyRead_of_empty hn (by simpa using hlen)]
    exact s.finish_onlyAnswered hex _ _ _
  · intro e hn he
    rw [s.reserve.historyRead_of_entry hn (by simpa using he)]
    exact s.finish_onlyAnswered hex _ (n :: 1 :: e.fields) _

end Sys2Proof.Machine

/-! What every command keeps. `Keeps s t` gathers the properties of Safety.lean that a command leading from `s` to `t`
keeps; it follows from `Within`, and the few operations outside `Within` have a lemma each. -/

namespace Sys2Proof.Machine

/-- The properties of `s` that `t` keeps: the channels fit, the serials are distinct, the notices fit, the nonces are
safe, and the key work fits, with a locked part's keys as they were. -/
structure Keeps (s t : State) : Prop where
  fits : ∀ c, (s.chan c).fits → (t.chan c).fits := by exact fun _ h => h
  serials : s.serialsDistinct → t.serialsDistinct := by exact id
  notices : s.noticesFit → t.noticesFit := by exact id
  nonces : s.noncesSafe → t.noncesSafe := by exact id
  keyWork : s.keyWorkFits → t.keyWorkFits := by exact id
  locked : s.keyWorkFits → s.store.locked = true → t.store.locked = true ∧ t.store.keys = s.store.keys := by
    exact fun _ h => ⟨h, rfl⟩

theorem Keeps.refl (s : State) : Keeps s s where

theorem Keeps.trans {s t u : State} (h : Keeps s t) (k : Keeps t u) : Keeps s u where
  fits c x := k.fits c (h.fits c x)
  serials x := k.serials (h.serials x)
  notices x := k.notices (h.notices x)
  nonces x := k.nonces (h.nonces x)
  keyWork x := k.keyWork (h.keyWork x)
  locked x l := by
    obtain ⟨l1, k1⟩ := h.locked x l
    obtain ⟨l2, k2⟩ := k.locked (h.keyWork x) l1
    exact ⟨l2, k2.trans k1⟩

/-! ## The work of the store that a state asks for -/

/-- The limit that the save in progress asks for. -/
def jobLimits : Option SaveInProgress → List Nat
  | some sv => sv.job.limits
  | none => []

/-- The class-1 save that the save in progress makes. -/
def jobKeySaves : Option SaveInProgress → List KeySave
  | some sv => sv.job.keySaves
  | none => []

@[simp] theorem jobLimits_none : jobLimits none = [] := rfl
@[simp] theorem jobLimits_some (sv : SaveInProgress) : jobLimits (some sv) = sv.job.limits := rfl
@[simp] theorem jobKeySaves_none : jobKeySaves none = [] := rfl
@[simp] theorem jobKeySaves_some (sv : SaveInProgress) : jobKeySaves (some sv) = sv.job.keySaves := rfl

theorem HistoryUnit.limitsAsked_eq (h : HistoryUnit) :
    h.limitsAsked = h.keySaves.flatMap KeySave.limits ++ jobLimits h.saving := by
  unfold HistoryUnit.limitsAsked
  cases h.saving <;> rfl

theorem HistoryUnit.keyWork_eq (h : HistoryUnit) :
    h.keyWork = h.keySaves.filter KeySave.writesKeys ++ (jobKeySaves h.saving).filter KeySave.writesKeys := by
  unfold HistoryUnit.keyWork
  rw [List.filter_append]
  cases h.saving <;> rfl

/-- What the save in progress asks for depends on its job alone. -/
theorem jobLimits_congr {x y : Option SaveInProgress}
    (h : x.map SaveInProgress.job = y.map SaveInProgress.job) : jobLimits x = jobLimits y := by
  cases x <;> cases y <;> simp_all

theorem jobKeySaves_congr {x y : Option SaveInProgress}
    (h : x.map SaveInProgress.job = y.map SaveInProgress.job) : jobKeySaves x = jobKeySaves y := by
  cases x <;> cases y <;> simp_all

variable {s t u : State}

theorem Within.limitsAsked (h : Within s t) : t.hist.limitsAsked = s.hist.limitsAsked := by
  rw [HistoryUnit.limitsAsked_eq, HistoryUnit.limitsAsked_eq, h.keySaves, jobLimits_congr h.job]

theorem Within.keyWork (h : Within s t) : t.hist.keyWork = s.hist.keyWork := by
  rw [HistoryUnit.keyWork_eq, HistoryUnit.keyWork_eq, h.keySaves, jobKeySaves_congr h.job]

/-- The operations inside a command keep everything. -/
theorem Within.keeps (h : Within s t) : Keeps s t where
  fits := h.fits
  serials := h.serials
  notices := h.notices
  nonces := by
    unfold State.noncesSafe
    rw [h.limitsAsked, h.challenge, h.store, h.phase]
    exact id
  keyWork := by
    unfold State.keyWorkFits
    rw [h.keyWork, h.keyWait, h.store]
    exact id
  locked _ l := by
    rw [h.store]
    exact ⟨l, rfl⟩

theorem Keeps.within (h : Keeps s t) (w : Within t u) : Keeps s u := h.trans w.keeps

/-! ## The clock, the metering state and the link's counters -/

theorem Keeps.advanceTo (h : Keeps s t) (n : Nat) : Keeps s (t.advanceTo n) := h.trans {}
theorem Keeps.setMeter (h : Keeps s t) (c : ChanId) (v : Meter) : Keeps s (t.setMeter c v) := h.trans {}
theorem Keeps.modMeter (h : Keeps s t) (c : ChanId) (f : Meter → Meter) : Keeps s (t.modMeter c f) := h.trans {}
theorem Keeps.setFramer (h : Keeps s t) (f : Framer) : Keeps s (t.setFramer f) := h.trans {}
theorem Keeps.modBay (h : Keeps s t) (b : BayId) (f : Bay → Bay) : Keeps s (t.modBay b f) := h.trans {}
theorem Keeps.raise (h : Keeps s t) (n : Notice) : Keeps s (t.raise n) := h.within ((Within.refl t).raise n)
theorem Keeps.raiseIf (h : Keeps s t) (l : Bool) (sc : Scope) : Keeps s (t.raiseIf l sc) :=
  h.within ((Within.refl t).raiseIf l sc)
theorem Keeps.transmit (h : Keeps s t) : Keeps s t.transmit := h.within (Within.refl t).transmit
theorem Keeps.conclude (h : Keeps s t) : Keeps s t.conclude := h.within (Within.refl t).conclude

theorem Keeps.bumpMerges (h : Keeps s t) (c : ChanId) : Keeps s (t.bumpMerges c) := (h.modMeter _ _).raiseIf _ _
theorem Keeps.bumpRestarts (h : Keeps s t) (c : ChanId) : Keeps s (t.bumpRestarts c) := (h.modMeter _ _).raiseIf _ _
theorem Keeps.bumpBadFrames (h : Keeps s t) : Keeps s t.bumpBadFrames :=
  Keeps.raiseIf (t := { t with link := { t.link with badFrames := t.link.badFrames.bump max16 half16 } })
    (h.trans {}) _ _
theorem Keeps.bumpDropped (h : Keeps s t) : Keeps s t.bumpDropped :=
  Keeps.raiseIf (t := { t with link := { t.link with droppedRefusals := t.link.droppedRefusals.bump max16 half16 } })
    (h.trans {}) _ _
theorem Keeps.bumpIgnored (h : Keeps s t) : Keeps s t.bumpIgnored :=
  Keeps.raiseIf (t := { t with link := { t.link with ignoredEntries := t.link.ignoredEntries.bump max16 half16 } })
    (h.trans {}) _ _

theorem Keeps.answerNow (h : Keeps s t) (k g : Byte) (r : Result) : Keeps s (t.answerNow k g r) := by
  unfold State.answerNow
  split
  · exact h.trans {}
  · exact h.bumpDropped

/-! ## The Metering Unit (R68 to R80) -/

theorem Keeps.refillHand (h : Keeps s t) : Keeps s t.refillHand := by
  unfold State.refillHand
  split
  · exact h
  · split
    · exact h
    · exact h.trans {}

/-- What holds after each item of a list holds after all of them. -/
theorem Keeps.foldl {α : Type} (f : State → α → State) (k : ∀ {t : State}, Keeps s t → ∀ a, Keeps s (f t a)) :
    ∀ {t : State} (l : List α), Keeps s t → Keeps s (l.foldl f t)
  | _, [], h => h
  | _, a :: l, h => Keeps.foldl f k l (k h a)

theorem Keeps.repeat (f : State → State) (k : ∀ {t : State}, Keeps s t → Keeps s (f t)) (h : Keeps s t) :
    ∀ n, Keeps s (Nat.repeat f n t)
  | 0 => h
  | n + 1 => k (Keeps.repeat f k h n)

theorem Keeps.queueReport (h : Keeps s t) (r : List DropEntry) : Keeps s (t.queueReport r) := by
  unfold State.queueReport
  split
  · exact Keeps.refillHand (h.trans {})
  · split
    · exact h
    · exact Keeps.foldl _ (fun h e => h.bumpMerges e.chan) _ (h.trans {})

theorem Keeps.takeReport (h : Keeps s t) (p : List Byte) : Keeps s (t.takeReport p) := by
  unfold State.takeReport
  split
  · exact h.bumpBadFrames
  · next es _ =>
    have hcounted := Keeps.repeat State.bumpIgnored (fun k => k.bumpIgnored) h (es.countP Option.isNone)
    dsimp only
    split
    · exact hcounted
    · exact hcounted.queueReport _

theorem Keeps.charge (h : Keeps s t) (c : ChanId) (n : Nat) : Keeps s (t.charge c n) := by
  unfold State.charge
  split
  · exact h.within ((Within.refl t).debit _ _)
  · unfold State.addUnattributed
    dsimp only
    split
    · exact (h.modMeter _ _).raise _
    · exact h.modMeter _ _

theorem Keeps.meterEntry (h : Keeps s t) (e : DropEntry) : Keeps s (t.meterEntry e) := by
  unfold State.meterEntry
  split
  · exact h.bumpIgnored
  · split
    · exact h.modMeter _ _
    · split
      · exact ((h.modMeter _ _).bumpRestarts _).raise _
      · unfold State.meterDrops
        dsimp only
        split
        · exact h.setMeter _ _
        · exact (h.setMeter _ _).charge _ _

/-! ## The receive side (R151 to R153) -/

theorem Keeps.abandonFrame (h : Keeps s t) : Keeps s t.abandonFrame := (h.setFramer _).bumpBadFrames

theorem Keeps.offer (h : Keeps s t) (f : HostFrame) : Keeps s (t.offer f) := by
  unfold State.offer
  split
  · exact h.trans {}
  · exact h.answerNow _ _ _

theorem Keeps.takeFrame (h : Keeps s t) (f : HostFrame) : Keeps s (t.takeFrame f) := by
  unfold State.takeFrame
  split
  · exact h.bumpBadFrames
  · split
    · exact h.takeReport _
    · split
      · exact h.answerNow _ _ _
      · split
        · exact h.offer _
        · exact h.answerNow _ _ _

theorem Keeps.receiveByte (h : Keeps s t) (x : Byte) : Keeps s (t.receiveByte x) := by
  unfold State.receiveByte
  split
  · split
    · exact h.setFramer _
    · exact h
  · unfold State.assemble
    dsimp only
    split
    · exact h.abandonFrame
    · split
      · exact (h.setFramer _).takeFrame _
      · exact h.setFramer _

theorem Keeps.lineBreak (h : Keeps s t) : Keeps s t.lineBreak := by
  unfold State.lineBreak
  split
  · exact h
  · exact h.abandonFrame

theorem Keeps.advanceGap (h : Keeps s t) : Keeps s t.advanceGap := by
  unfold State.advanceGap
  split
  · exact h
  · exact h.advanceTo _

/-! ## Resets and start-up (R168, R169) -/

/-- With a locked part no save that writes keys is in progress, so a cut save leaves the lock and the keys. -/
theorem Store.cut_locked (st : Store) (landed : Bool) (sv : Option SaveInProgress) (l : st.locked = true)
    (h : ∀ v ∈ sv, ∀ k, v.job = .key k → k.writesKeys = false) :
    (st.cut landed sv).locked = true ∧ (st.cut landed sv).keys = st.keys := by
  rcases sv with _ | ⟨k | _ | _, _, _⟩
  · exact ⟨l, rfl⟩
  · have hk := h _ rfl k rfl
    cases k with
    | key _ _ => cases hk
    | lock => cases hk
    | reserve n => cases landed <;> exact ⟨l, rfl⟩
  · exact ⟨l, rfl⟩
  · cases landed <;> exact ⟨l, rfl⟩

/-- On a locked part the save in progress writes no key and no lock state. -/
theorem State.keyWorkFits.saving_of_locked (h : s.keyWorkFits) (l : s.store.locked = true) :
    ∀ v ∈ s.hist.saving, ∀ k, v.job = .key k → k.writesKeys = false := by
  intro v hv k hk
  obtain ⟨-, hwork⟩ := h
  by_contra hne
  have hmem : k ∈ s.hist.keyWork := by
    rw [HistoryUnit.keyWork_eq, Option.mem_def.mp hv]
    simpa [hk, SaveJob.keySaves] using Or.inr hne
  have := (hwork (List.ne_nil_of_mem hmem)).2
  rw [l] at this
  cases this

theorem State.reset_chan_fits (c : ChanId) : (State.reset.chan c).fits := by
  simp [State.chan, State.reset, Channel.fits, Channel.reset]

theorem State.beginReset_chan (k : StartCause) (c : ChanId) : (s.beginReset k).chan c = State.reset.chan c := rfl

/-- A reset leads to a state in which all invariants hold, and keeps a locked part's keys. -/
theorem Keeps.beginReset (s : State) (k : StartCause) : Keeps s (s.beginReset k) where
  fits c _ := (s.beginReset_chan k c) ▸ State.reset_chan_fits c
  serials _ := List.nodup_nil
  notices _ := ⟨Nat.zero_le _, fun h => absurd rfl h, List.Pairwise.nil⟩
  nonces _ := by
    have hasked : (s.beginReset k).hist.limitsAsked = [] := rfl
    have hblock : (s.beginReset k).challenge.block = .reserving := rfl
    refine ⟨fun h => ?_, ?_, ?_, fun _ => ⟨rfl, rfl, rfl⟩⟩
    · rw [hblock] at h
      cases h
    · simp [hasked]
    · simp [hasked]
  keyWork _ := ⟨Nat.zero_le _, fun h => absurd rfl h⟩
  locked h l := s.store.cut_locked _ _ l (h.saving_of_locked l)

theorem Keeps.endReset (h : Keeps s t) (p : t.phase = .inReset) : Keeps s t.endReset :=
  h.trans
    { nonces := by
        rintro ⟨h1, h2, h3, h4⟩
        exact ⟨h1, h2, h3, fun _ => h4 (.inl p)⟩ }

/-- The part in service: what start-up asks of the counter no longer applies. -/
theorem Keeps.run (h : Keeps s t) : Keeps s { t with phase := .running } :=
  h.trans
    { nonces := by
        rintro ⟨h1, h2, h3, -⟩
        refine ⟨h1, h2, h3, fun p => ?_⟩
        rcases p with p | p <;> cases p }

theorem Keeps.endStartup (h : Keeps s { t with phase := .running }) : Keeps s t.endStartup := by
  have hraised := h.raise (.startup (State.startupFields { t with phase := .running }))
  unfold State.endStartup
  dsimp only
  split
  · exact hraised.within (Within.refl _).enterSaving
  · exact hraised

/-! ## The scan (R135, R146) -/

theorem mem_keepFirst_not_seen {e : Entry} : ∀ {l : List Entry} {seen : List Word64}, e ∈ keepFirst seen l →
    e.data.serial ∉ seen
  | [], _, h => by simp [keepFirst] at h
  | x :: l, seen, h => by
    unfold keepFirst at h
    split at h
    · exact mem_keepFirst_not_seen h
    · next hx =>
      rcases List.mem_cons.mp h with rfl | h
      · simpa using hx
      · exact fun k => mem_keepFirst_not_seen h (List.mem_cons_of_mem _ k)

/-- The scan keeps one entry of each serial. -/
theorem keepFirst_nodup : ∀ (l : List Entry) (seen : List Word64),
    ((keepFirst seen l).map (fun e => e.data.serial)).Nodup
  | [], _ => List.nodup_nil
  | x :: l, seen => by
    unfold keepFirst
    split
    · exact keepFirst_nodup l seen
    · refine List.nodup_cons.mpr ⟨fun h => ?_, keepFirst_nodup l _⟩
      obtain ⟨e, he, hs⟩ := List.mem_map.mp h
      exact mem_keepFirst_not_seen he (hs ▸ List.mem_cons_self)

theorem State.scanSlots_serialsDistinct : s.scanSlots.serialsDistinct := by
  unfold State.serialsDistinct HistoryUnit.serials State.scanSlots
  dsimp only
  split
  · rw [renumber_serials]
    exact keepFirst_nodup _ _
  · exact keepFirst_nodup _ _

theorem Keeps.scanSlots (h : Keeps s t) : Keeps s t.scanSlots :=
  h.trans { serials := fun _ => State.scanSlots_serialsDistinct }

/-- The completion of the scan asks for the first block, above the next value, or exhausts the counter (R55). -/
theorem Keeps.scanComplete (h : Keeps s t) (p : t.phase = .scanning) : Keeps s t.scanComplete := by
  have hscan : Keeps s t.scanSlots := h.scanSlots
  have hp : t.scanSlots.phase = .scanning := p
  unfold State.scanComplete
  dsimp only
  generalize t.scanSlots = v at hscan hp ⊢
  split
  · refine hscan.trans { nonces := ?_, keyWork := ?_ }
    · rintro ⟨-, -, -, h4⟩
      obtain ⟨hnext, hblock, hasked⟩ := h4 (.inr hp)
      rw [HistoryUnit.limitsAsked_eq] at hasked
      obtain ⟨hwait, hjob⟩ := List.append_eq_nil_iff.mp hasked
      unfold State.noncesSafe
      simp [HistoryUnit.limitsAsked_eq, hnext, hblock, hwait, hjob, KeySave.limits, Config.challengeBlock]
    · unfold State.keyWorkFits
      simp [HistoryUnit.keyWork_eq, KeySave.writesKeys]
  · refine Keeps.endStartup (hscan.trans { nonces := ?_ })
    rintro ⟨-, h2, h3, -⟩
    refine ⟨fun k => (by cases k), h2, h3, fun k => ?_⟩
    rcases k with k | k <;> cases k

/-! ## The store arbiter (R142 to R144) -/

/-- A save begins: the keys, the lock and the limit of the store stay, and no class-1 save is lost or asked for. -/
theorem Keeps.ofBegunSave {x : HistoryUnit} {st : Store} (h : Keeps s t) (hidle : t.hist.saving = none)
    (hserials : x.serials = t.hist.serials) (hsaves : x.keySaves = t.hist.keySaves)
    (hjob : ∀ sv ∈ x.saving, sv.job.limits = [] ∧ sv.job.keySaves = [])
    (hlimit : st.limit = t.store.limit) (hlocked : st.locked = t.store.locked) (hkeys : st.keys = t.store.keys) :
    Keeps s { t with store := st, hist := x } := by
  have hlimits : x.limitsAsked = t.hist.limitsAsked := by
    rw [HistoryUnit.limitsAsked_eq, HistoryUnit.limitsAsked_eq, hidle, hsaves]
    rcases hx : x.saving with _ | sv
    · rfl
    · simp [(hjob sv hx).1]
  have hwork : x.keyWork = t.hist.keyWork := by
    rw [HistoryUnit.keyWork_eq, HistoryUnit.keyWork_eq, hidle, hsaves]
    rcases hx : x.saving with _ | sv
    · rfl
    · simp [(hjob sv hx).2]
  refine h.trans { serials := ?_, nonces := ?_, keyWork := ?_, locked := fun _ l => ⟨hlocked.trans l, hkeys⟩ }
  · unfold State.serialsDistinct
    rw [hserials]
    exact id
  · unfold State.noncesSafe
    rw [hlimits, hlimit]
    exact id
  · unfold State.keyWorkFits
    rw [hwork, hlocked]
    exact id

theorem Keeps.beginEntrySave (h : Keeps s t) (hidle : t.hist.saving = none) (e : Entry) :
    Keeps s (t.beginEntrySave e) := by
  refine h.ofBegunSave hidle ?_ rfl ?_ rfl rfl rfl
  · refine serials_map _ _ (fun x => ?_)
    split <;> rfl
  · rintro sv ⟨⟩
    exact ⟨rfl, rfl⟩

theorem Keeps.beginRemoval (h : Keeps s t) (hidle : t.hist.saving = none) (r : Removal) :
    Keeps s (t.beginRemoval r) := by
  refine h.ofBegunSave hidle rfl rfl ?_ rfl rfl rfl
  rintro sv ⟨⟩
  exact ⟨rfl, rfl⟩

theorem Keeps.beginClassThree (h : Keeps s t) (hidle : t.hist.saving = none) : Keeps s t.beginClassThree := by
  unfold State.beginClassThree
  split
  · split
    · exact h.beginRemoval hidle _
    · exact h.beginEntrySave hidle _
  · exact h.beginEntrySave hidle _
  · exact h.beginRemoval hidle _
  · exact h

/-- A class-1 save that begins is asked for as before. -/
theorem Keeps.beginKeySave (h : Keeps s t) {k : KeySave} {ks : List KeySave} (hidle : t.hist.saving = none)
    (hk : t.hist.keySaves = k :: ks) :
    Keeps s { t with hist := { t.hist with keySaves := ks, saving := some ⟨.key k, true, true⟩ } } := by
  have hlimits : t.hist.limitsAsked.Perm
      ({ t.hist with keySaves := ks, saving := some ⟨.key k, true, true⟩ } : HistoryUnit).limitsAsked := by
    simpa [HistoryUnit.limitsAsked_eq, hidle, hk, SaveJob.limits] using List.perm_append_comm
  have hwork : t.hist.keyWork.Perm
      ({ t.hist with keySaves := ks, saving := some ⟨.key k, true, true⟩ } : HistoryUnit).keyWork := by
    rw [HistoryUnit.keyWork_eq, HistoryUnit.keyWork_eq, ← List.filter_append, ← List.filter_append]
    refine List.Perm.filter _ ?_
    simpa [hidle, hk, SaveJob.keySaves] using (List.perm_append_singleton k ks).symm
  refine h.trans { nonces := ?_, keyWork := ?_ }
  · rintro ⟨h1, h2, h3, h4⟩
    refine ⟨fun x => ?_, fun l hl => h2 l (hlimits.mem_iff.mpr hl), hlimits.length_eq ▸ h3, fun x => ?_⟩
    · obtain ⟨a, b, c⟩ := h1 x
      exact ⟨a, b, (List.Perm.nil_eq (c ▸ hlimits)).symm⟩
    · obtain ⟨a, b, c⟩ := h4 x
      exact ⟨a, b, (List.Perm.nil_eq (c ▸ hlimits)).symm⟩
  · rintro ⟨h1, h2⟩
    refine ⟨hwork.length_eq ▸ h1, fun x => h2 (fun y => x ?_)⟩
    exact (List.Perm.nil_eq (y ▸ hwork)).symm

theorem State.refresh_saving (b : BayId) : (t.refresh b).hist.saving = t.hist.saving := by
  unfold State.refresh
  split <;> rfl

theorem Keeps.beginSave (h : Keeps s t) (hidle : t.hist.saving = none) : Keeps s t.beginSave := by
  unfold State.beginSave
  split
  · next hk => exact h.beginKeySave hidle hk
  · split
    · exact (h.within ((Within.refl t).refresh _)).beginEntrySave ((t.refresh_saving _).trans hidle) _
    · exact h.beginClassThree hidle

/-! ## The completion of a save (R143, R144, R48, R49, R56) -/

/-- The save in progress no longer counts, and it asked for no limit and no key. -/
theorem Keeps.endSave (h : Keeps s t) {sv : SaveInProgress} (hsv : t.hist.saving = some sv)
    (hl : sv.job.limits = []) (hk : sv.job.keySaves = []) :
    Keeps s { t with hist := { t.hist with saving := none } } := by
  refine h.trans { nonces := ?_, keyWork := ?_ }
  · unfold State.noncesSafe
    simp [HistoryUnit.limitsAsked_eq, hsv, hl]
  · unfold State.keyWorkFits
    simp [HistoryUnit.keyWork_eq, hsv, hk]

theorem Keeps.setSlot (h : Keeps s t) (sl : SlotId) (v : StoredSlot) :
    Keeps s { t with store := t.store.setSlot sl v } := h.trans {}

theorem Keeps.entrySaved (h : Keeps s t) (sl : SlotId) (copy : EntryData) (p f : Bool) :
    Keeps s (t.entrySaved sl copy p f) := by
  have hslot := h.setSlot sl (.closed copy)
  unfold State.entrySaved
  extract_lets v
  have hslot : Keeps s v := hslot
  clear_value v
  split
  · exact hslot
  · next e _ =>
    have hw : Within v { v with hist := { v.hist with
        table := v.hist.table.map (fun x => if x.slot == sl && x.saving then x.saved else x) } } := by
      refine (Within.refl v).hist _ rfl rfl rfl rfl (fun d => ?_)
      unfold HistoryUnit.serials at *
      rwa [serials_map]
      intro x
      split <;> rfl
    refine hslot.within ?_
    cases p <;> cases f
    · exact hw
    · exact hw.flushDone _
    · exact hw.pfDone _
    · exact (hw.pfDone _).flushDone _

theorem Keeps.removalSaved (h : Keeps s t) (sl : SlotId) : Keeps s (t.removalSaved sl) := by
  have hslot := h.setSlot sl .free
  unfold State.removalSaved
  extract_lets v w
  have hslot : Keeps s v := hslot
  refine hslot.within (Within.retryStep4 ?_)
  subst w
  clear_value v
  split
  · next hw =>
    split
    · exact (Within.refl v).finishRequest _ _ _ (by simp [hw])
    · exact Within.refl v
  · exact Within.refl v

/-- A reservation completes: its limit is above the next value and stands in the store now (R56). -/
theorem Keeps.reservedSave (s : State) {limit : Nat} {p f : Bool}
    (hsv : s.hist.saving = some ⟨.key (.reserve limit), p, f⟩) :
    Keeps s { s with
      hist := { s.hist with saving := none }, store := { s.store with limit := limit }
      challenge := { s.challenge with blockEnd := limit, block := .reserved } } where
  nonces := by
    rintro ⟨-, h2, h3, h4⟩
    rw [HistoryUnit.limitsAsked_eq, hsv] at h2 h3 h4
    have hwait : s.hist.keySaves.flatMap KeySave.limits = [] := by
      refine List.eq_nil_of_length_eq_zero ?_
      simp only [jobLimits_some, SaveJob.limits, KeySave.limits, List.length_append, List.length_singleton] at h3
      omega
    have hnext : s.challenge.next < limit := h2 limit (by simp [SaveJob.limits, KeySave.limits])
    unfold State.noncesSafe
    rw [HistoryUnit.limitsAsked_eq, jobLimits_none, hwait]
    refine ⟨fun _ => ⟨hnext, le_refl _, rfl⟩, by simp, by simp, fun hp => ?_⟩
    simpa [SaveJob.limits, KeySave.limits] using (h4 hp).2.2
  keyWork := by
    unfold State.keyWorkFits
    simp [HistoryUnit.keyWork_eq, hsv, SaveJob.keySaves, KeySave.writesKeys]

/-- A key or lock save completes: the part was not locked, and no other such save is asked for (R48, R49). -/
theorem Keeps.keyWritten (s : State) {k : KeySave} {p f : Bool} (hsv : s.hist.saving = some ⟨.key k, p, f⟩)
    (hk : k.writesKeys = true) :
    Keeps s { s with hist := { s.hist with saving := none }, store := s.store.applyKeySave k } ∧
      (s.keyWorkFits → ({ s.hist with saving := none } : HistoryUnit).keyWork = []) := by
  have hlimits : k.limits = [] := by cases k <;> first | rfl | cases hk
  have hlimit : (s.store.applyKeySave k).limit = s.store.limit := by cases k <;> first | rfl | cases hk
  have hwork : s.keyWorkFits → ({ s.hist with saving := none } : HistoryUnit).keyWork = [] ∧ s.store.locked = false := by
    rintro ⟨h1, h2⟩
    rw [HistoryUnit.keyWork_eq, hsv] at h1 h2
    have hnone : s.hist.keySaves.filter KeySave.writesKeys = [] := by
      simpa [SaveJob.keySaves, hk, -List.filter_eq_nil_iff] using h1
    refine ⟨?_, (h2 (by simp [SaveJob.keySaves, hk])).2⟩
    simpa [HistoryUnit.keyWork_eq, -List.filter_eq_nil_iff] using hnone
  refine ⟨{ nonces := ?_, keyWork := fun h => ?_, locked := fun h l => ?_ }, fun h => (hwork h).1⟩
  · unfold State.noncesSafe
    simp [HistoryUnit.limitsAsked_eq, hsv, SaveJob.limits, hlimits, hlimit]
  · obtain ⟨hnone, -⟩ := hwork h
    unfold State.keyWorkFits
    simp [hnone]
  · obtain ⟨-, hopen⟩ := hwork h
    rw [hopen] at l
    cases l

/-- The end of a request that waits for its key save, once no key work is asked for. -/
theorem Keeps.finishKeyRequest (h : Keeps s t) (hnone : s.keyWorkFits → t.hist.keyWork = []) (r : Result)
    (fs : List Byte) (z : Bool) : Keeps s (t.finishRequest r fs z) where
  fits c k := by simpa using h.fits c k
  serials k := by simpa [State.serialsDistinct] using h.serials k
  notices k := by simpa [State.noticesFit] using h.notices k
  nonces k := by simpa [State.noncesSafe] using h.nonces k
  keyWork k := by simp [State.keyWorkFits, hnone k]
  locked k l := by simpa using h.locked k l

theorem Keeps.completeSave {sv : SaveInProgress} (hsv : s.hist.saving = some sv) : Keeps s (s.completeSave sv) := by
  rcases sv with ⟨k | ⟨sl, copy⟩ | sl, p, f⟩
  · cases k with
    | reserve limit =>
      have hk := Keeps.reservedSave s hsv
      unfold State.completeSave State.keySaved State.reserved
      dsimp only [Store.applyKeySave]
      split
      · exact hk.run.endStartup
      · exact hk
    | key slot key =>
      obtain ⟨hk, hnone⟩ := Keeps.keyWritten s hsv rfl
      unfold State.completeSave State.keySaved
      dsimp only
      split
      · exact hk.finishKeyRequest hnone _ _ _
      · exact hk
    | lock =>
      obtain ⟨hk, hnone⟩ := Keeps.keyWritten s hsv rfl
      unfold State.completeSave State.keySaved
      dsimp only
      split
      · exact hk.finishKeyRequest hnone _ _ _
      · exact hk
  · exact ((Keeps.refl s).endSave hsv rfl rfl).entrySaved _ _ _ _
  · exact ((Keeps.refl s).endSave hsv rfl rfl).removalSaved _

/-! ## The arbiter's draw (R54, R56) -/

/-- A draw moves within the block; a used-up block asks for the next, above the next value, or is the last. -/
theorem Keeps.drawNonce (h : Keeps s t) (hb : t.challenge.block = .reserved) : Keeps s t.drawNonce := by
  have hsafe : t.noncesSafe → t.challenge.next < t.challenge.blockEnd ∧ t.challenge.blockEnd ≤ t.store.limit ∧
      t.hist.keySaves.flatMap KeySave.limits = [] ∧
      jobLimits t.hist.saving = [] ∧
      ¬ (t.phase = .inReset ∨ t.phase = .scanning) := by
    rintro ⟨h1, -, -, h4⟩
    obtain ⟨hlt, hle, hasked⟩ := h1 hb
    rw [HistoryUnit.limitsAsked_eq] at hasked
    obtain ⟨hwait, hjob⟩ := List.append_eq_nil_iff.mp hasked
    refine ⟨hlt, hle, hwait, hjob, fun hp => ?_⟩
    have hres := (h4 hp).2.1
    rw [hb] at hres
    cases hres
  unfold State.drawNonce State.afterDraw
  dsimp only
  split
  · next hend =>
    split
    · refine h.trans { nonces := fun k => ?_ }
      obtain ⟨hlt, hle, hwait, hjob, hp⟩ := hsafe k
      unfold State.noncesSafe
      simp [HistoryUnit.limitsAsked_eq, hwait, hjob, hp]
    · refine h.trans { nonces := fun k => ?_, keyWork := ?_ }
      · obtain ⟨hlt, hle, hwait, hjob, hp⟩ := hsafe k
        unfold State.noncesSafe
        simp [HistoryUnit.limitsAsked_eq, hwait, hjob, hp, KeySave.limits, hend, Config.challengeBlock]
      · unfold State.keyWorkFits
        simp [HistoryUnit.keyWork_eq, KeySave.writesKeys]
  · next hend =>
    refine h.trans { nonces := fun k => ?_ }
    obtain ⟨hlt, hle, hwait, hjob, hp⟩ := hsafe k
    unfold State.noncesSafe
    simp only [HistoryUnit.limitsAsked_eq, hwait, hjob, hle, hp]
    simp only [List.append_nil, List.not_mem_nil, false_implies, implies_true, List.length_nil, true_and, and_true]
    exact ⟨fun _ => by omega, by omega⟩

/-- A chosen entry is queued and eligible (R37). -/
theorem State.chooseEntry_eligible {g : SegCtl} {e : BusEntry} (h : s.chooseEntry g = some e) :
    e ∈ g.queue ∧ s.eligible g e = true := by
  have hof : ∀ {p : BusEntry → Bool}, (g.queue.filter (fun e => s.eligible g e)).find? p = some e →
      e ∈ g.queue ∧ s.eligible g e = true := fun k => List.mem_filter.mp (List.mem_of_find?_eq_some k)
  unfold State.chooseEntry at h
  dsimp only at h
  split at h
  · next k => cases h; exact hof k
  · split at h
    · next k => cases h; exact hof k
    · split at h
      · next k => cases h; exact hof k
      · split at h
        · next k => cases h; exact hof k
        · exact hof h

/-- A CHALLENGE that is no poll is eligible only within a reserved block (R36). -/
theorem State.eligible_challenge {g : SegCtl} {e : BusEntry} (h : s.eligible g e = true) (ho : e.op = .challenge)
    (hp : e.state ≠ .pollDue) : s.challenge.block = .reserved := by
  unfold State.eligible at h
  split at h
  · next k => exact absurd k hp
  · cases h
  · simp only [ho, Bool.and_eq_true, beq_iff_eq] at h
    exact h.2

theorem Keeps.takeBusEntry (h : Keeps s t) {g : SegCtl} {e : BusEntry} (hc : t.chooseEntry g = some e) :
    Keeps s (t.takeBusEntry e) := by
  obtain ⟨-, hel⟩ := State.chooseEntry_eligible hc
  have hw := Within.refl t
  unfold State.takeBusEntry
  split
  · exact h.within (hw.sendEntry _ _)
  · next hp =>
    split
    · next ho =>
      refine (h.within (hw.sendEntry _ _)).drawNonce ?_
      rw [(hw.sendEntry _ _).challenge]
      exact State.eligible_challenge hel ho (by simpa using hp)
    · split
      · exact h.within (hw.sendEntry _ _)
      · exact h.within ((hw.drawAdvance _).sendEntry _ _)
    · exact h.within (hw.sendEntry _ _)

theorem Keeps.arbitrate (h : Keeps s t) (g : Segment) : Keeps s (t.arbitrate g) := by
  unfold State.arbitrate
  split
  · exact h.within ((Within.refl t).sendSetCode _)
  · split
    · next hc => exact h.takeBusEntry hc
    · exact h

end Sys2Proof.Machine

/-! What a request command executes (R154), and that every command keeps the invariants. -/

namespace Sys2Proof.Machine

/-! ## The request commands as one (8.2) -/

/-- The command that executes requests of a kind. -/
def Req.instr : Req → Instr
  | .partStatus => .partStatus | .setPart => .setPart | .configureChannel => .configureChannel
  | .channelQuery => .channelQuery | .bayQuery => .bayQuery | .hold => .hold | .release => .release
  | .loadKey => .loadKey | .lockKeys => .lockKeys | .keyCheck => .keyCheck | .cartRead => .cartRead
  | .cartWrite => .cartWrite | .historyRead => .historyRead | .historyForget => .historyForget
  | .countersRead => .countersRead | .flush => .flush | .restart => .restart

/-- What a request does to the state in which its place is reserved. -/
def Req.perform (r : Req) (s : State) (p : List Byte) : State :=
  match r with
  | .partStatus => s.partStatus
  | .setPart => s.setPart p
  | .configureChannel => s.configureChannel p
  | .channelQuery => s.channelQuery p
  | .bayQuery => s.bayQuery p
  | .hold => s.holdChannel p
  | .release => s.releaseChannel p
  | .loadKey => s.loadKey p
  | .lockKeys => s.lockKeys
  | .keyCheck => s.keyCheck p
  | .cartRead => s.cartReadRequest p
  | .cartWrite => s.cartWriteRequest p
  | .historyRead => s.historyRead p
  | .historyForget => s.historyForget p
  | .countersRead => s.countersRead p
  | .flush | .restart => s.formFlush

/-- How the command of a request ends: the ones that may complete a set look at the sets too (log 5). -/
def Req.close (r : Req) (s : State) : State :=
  match r with
  | .historyForget | .flush | .restart => s.conclude
  | _ => s.transmit

theorem exec_request_none {s : State} {r : Req} (h : s.requestReady r = none) : exec r.instr s = .next s := by
  cases r <;>
    simp [Req.instr, exec, h, execPartStatus, execSetPart, execConfigureChannel, execChannelQuery, execBayQuery,
      execHold, execRelease, execLoadKey, execLockKeys, execKeyCheck, execCartRead, execCartWrite, execHistoryRead,
      execHistoryForget, execCountersRead, execFlush, execRestart]

theorem exec_request_some {s : State} {r : Req} {q : Request} (h : s.requestReady r = some q) :
    exec r.instr s = .next (r.close (r.perform s.reserve q.payload)) := by
  cases r <;>
    simp [Req.instr, Req.close, Req.perform, exec, h, execPartStatus, execSetPart, execConfigureChannel,
      execChannelQuery, execBayQuery, execHold, execRelease, execLoadKey, execLockKeys, execKeyCheck, execCartRead,
      execCartWrite, execHistoryRead, execHistoryForget, execCountersRead, execFlush, execRestart]

/-- A request command executes the request that R154 lets it take. -/
theorem exec_request {s : State} {r : Req} {q : Request} {rest : List Request} (h : s.executable r q rest) :
    exec r.instr s = .next (r.close (r.perform s.reserve q.payload)) :=
  exec_request_some (s.requestReady_eq_some.mpr ⟨rest, h⟩)

/-! ## Requests keep the invariants -/

variable {s t : State}

theorem Keeps.reserve (h : Keeps s t) : Keeps s t.reserve := h.within (Within.refl t).reserve

/-- A channel's record is replaced by one that fits if the old one does. -/
theorem Keeps.setChan (h : Keeps s t) (c : ChanId) (v : Channel) (k : (t.chan c).fits → v.fits) :
    Keeps s (t.setChan c v) := by
  refine h.trans { fits := fun d hd => ?_ }
  by_cases e : d = c
  · subst e
    simpa using k hd
  · rwa [t.chan_setChan_ne e]

theorem Keeps.setCauses (h : Keeps s t) (c : ChanId) (x : HoldCauses)
    (k : (t.chan c).fits → { t.chan c with causes := x }.fits) : Keeps s (t.setCauses c x) := by
  unfold State.setCauses
  split
  · exact h
  · exact (h.setChan c _ k).raise _

section
variable (hw : t.link.waiting ≠ some .keySave)
include hw

theorem Keeps.finish (h : Keeps s t) (r : Result) (fs : List Byte) (z : Bool) : Keeps s (t.finishRequest r fs z) :=
  h.within ((Within.refl t).finishRequest r fs z hw)

theorem Keeps.setPart (h : Keeps s t) (p : List Byte) : Keeps s (t.setPart p) := by
  unfold State.setPart
  extract_lets d r a s1
  split
  · have hw1 : Within s1 (allBays.foldl State.evaluateNoticed s1) := by
      refine Within.foldl _ (fun {u v} h b => ?_) _ (Within.refl s1)
      unfold State.evaluateNoticed
      split
      · exact h
      · dsimp only
        split
        · exact (h.evaluate b).raise _
        · exact h
    refine Keeps.within (t := s1) (h.trans {}) (hw1.finishRequest _ _ _ ?_)
    rw [Ne, hw1.keyWait]
    exact hw
  · exact h.finish hw _ _ _

omit hw in
theorem Within.restartFilter (h : Within s t) (b : BayId) : Within s (t.restartFilter b) := by
  unfold State.restartFilter
  split
  · split
    · exact h.modBay _ _
    · exact h
  · exact h

omit hw in
theorem Within.linkIfPresent (h : Within s t) (b : BayId) : Within s (t.linkIfPresent b) := by
  unfold State.linkIfPresent
  split
  · exact h.startFirstLink b
  · exact h

omit hw in
theorem Within.forBays (h : Within s t) (x : Bool) (c : ChanId) {f : State → BayId → State}
    (k : ∀ {u v : State}, Within u v → ∀ b, Within u (f v b)) : Within s (t.forBays x c f) := by
  unfold State.forBays
  split
  · exact Within.foldl f k _ h
  · exact h

omit hw in
theorem State.enterStarved_fits (c : ChanId) : ((t.enterStarved c).chan c).fits := by
  simp [State.enterStarved, Channel.starve, Channel.fits]

/-- The record and the metering state of a first configuration before the bays are acted on. -/
def State.firstConfigured (s : State) (c : ChanId) (k : Settings) : State :=
  (s.modChan c (fun h => { h with config := some k, causes := { h.causes with unconfigured := false } })).modMeter c
    (fun m => { m with model := some k.model, base := none, rt := 0, rv := 0 })

omit hw in
theorem Within.firstConfig (c : ChanId) (k : Settings) : Within (t.firstConfigured c k) (t.firstConfig c k) :=
  (Within.foldl _ (fun h b => h.restartFilter b) _
    (Within.foldl _ (fun h b => h.linkIfPresent b) _ (Within.refl _))).enterStarved c

/-- A first configuration takes the UNCONFIGURED cause and makes the channel STARVED, which its STARVED cause fits. -/
theorem Keeps.firstConfig (h : Keeps s t) (c : ChanId) (k : Settings) :
    Keeps s (t.firstConfig c k) ∧ (t.firstConfig c k).link.waiting ≠ some .keySave := by
  have hin : Within (t.firstConfigured c k) (t.firstConfig c k) := Within.firstConfig c k
  refine ⟨h.trans { fits := fun d hd => ?_, serials := hin.serials, notices := hin.notices, nonces := hin.keeps.nonces
                    keyWork := hin.keeps.keyWork, locked := hin.keeps.locked }, fun k => hw (hin.keyWait.mp k)⟩
  by_cases e : d = c
  · subst e
    exact State.enterStarved_fits d
  · refine hin.fits d ?_
    simpa [State.firstConfigured, t.chan_modChan_ne e] using hd

theorem Keeps.reconfig (h : Keeps s t) (c : ChanId) (old k : Settings) :
    Keeps s (t.reconfig c old k) ∧ (t.reconfig c old k).link.waiting ≠ some .keySave := by
  have hset : Keeps s ((t.modChan c (fun h => { h with config := some k })).modMeter c
      (fun m => { m with model := some k.model })) :=
    (h.setChan c { t.chan c with config := some k } (fun x => x)).modMeter c _
  unfold State.reconfig
  extract_lets s1 s2 s3 s4 s5 s6 s7
  have h3 : Within s2 s3 := (Within.refl s2).forBays _ c (fun h b => h.levelTests b)
  have h4 : Within s2 s4 := h3.forBays _ c (fun h b => h.writeBackTrigger b false)
  have h5 : Within s2 s5 := h4.forBays _ c (fun h b => h.policyTestQuietly b)
  have h6 : Within s2 s6 := h5.forBays _ c (fun h b => h.restartFilter b)
  have h7 : Within s2 s7 := h6.forBays _ c (fun h b => h.retryAfterAdvance s4 b)
  clear_value s3 s4 s5 s6 s7
  have hin : Within s2 (s7.choose c) := h7.choose c
  exact ⟨hset.within hin, fun x => hw (hin.keyWait.mp x)⟩

theorem Keeps.answerConfig (h : Keeps s t) (c : ChanId) (first : Bool) (k : Settings) :
    Keeps s (t.answerConfig c first k) := h.finish hw _ _ _

theorem Keeps.configureChannel (h : Keeps s t) (p : List Byte) : Keeps s (t.configureChannel p) := by
  unfold State.configureChannel
  split
  · next c k _ _ =>
    split
    · exact h.finish hw _ _ _
    · split
      · obtain ⟨h1, hw1⟩ := h.firstConfig hw c k
        exact h1.answerConfig hw1 _ _ _
      · next old _ =>
        split
        · exact h.finish hw _ _ _
        · obtain ⟨h1, hw1⟩ := h.reconfig hw c old k
          exact h1.answerConfig hw1 _ _ _
  · exact h.finish hw _ _ _

theorem Keeps.answerHeld (h : Keeps s t) (c : ChanId) (x : HoldCauses) (fs : List Byte)
    (k : (t.chan c).fits → { t.chan c with causes := x }.fits) : Keeps s ((t.setCauses c x).answerOk fs) := by
  refine (h.setCauses c x k).finish ?_ _ _ _
  have hwaiting : (t.setCauses c x).link.waiting = t.link.waiting :=
    (congrArg LinkUnit.waiting (t.noteOnly_setCauses c x).eq :)
  rwa [hwaiting]

theorem Keeps.holdChannel (h : Keeps s t) (p : List Byte) : Keeps s (t.holdChannel p) := by
  unfold State.holdChannel
  split
  · exact h.answerHeld hw _ _ _ id
  · exact h.finish hw _ _ _

theorem Keeps.releaseChannel (h : Keeps s t) (p : List Byte) : Keeps s (t.releaseChannel p) := by
  unfold State.releaseChannel
  split
  · exact h.answerHeld hw _ _ _ id
  · exact h.finish hw _ _ _

theorem Keeps.cartReadRequest (h : Keeps s t) (p : List Byte) : Keeps s (t.cartReadRequest p) := by
  unfold State.cartReadRequest
  extract_lets block
  split
  · exact h.finish hw _ _ _
  · repeat' split
    iterate 3 exact h.finish hw _ _ _
    exact h.within (((Within.refl t).waitFor _ hw (by simp)).enqueue _ _ _ _)

theorem Keeps.cartWriteRequest (h : Keeps s t) (p : List Byte) : Keeps s (t.cartWriteRequest p) := by
  unfold State.cartWriteRequest
  extract_lets first
  split
  · exact h.finish hw _ _ _
  · repeat' split
    iterate 4 exact h.finish hw _ _ _
    exact h.within (((Within.refl t).waitFor _ hw (by simp)).enqueue _ _ _ _)

theorem Keeps.historyForget (h : Keeps s t) (p : List Byte) : Keeps s (t.historyForget p) := by
  unfold State.historyForget
  dsimp only
  generalize BitVec.ofNat 64 (beNat (slice p 0 8)) = serial
  split
  · exact h.finish hw _ _ _
  · split
    · exact h.finish hw _ _ _
    · have hin : Within t (t.dropEntry serial) := (Within.refl t).dropEntry serial
      refine h.within (Within.waitFor (Within.hist hin _ (by rfl) (by rfl) (by rfl) (by rfl) (by exact id)) _ ?_
        (by simp))
      exact fun x => hw (hin.keyWait.mp x)

theorem Keeps.countersRead (h : Keeps s t) (p : List Byte) : Keeps s (t.countersRead p) := by
  unfold State.countersRead
  split
  · exact h.finish hw _ _ _
  · next sc _ =>
    cases sc
    · exact Keeps.finish (t := t.modBay _ _) hw (h.modBay _ _) _ _ _
    · exact Keeps.finish (t := t.modMeter _ _) hw (h.modMeter _ _) _ _ _
    · exact Keeps.finish
        (t := { t with link := { t.link with badFrames := .zero, droppedRefusals := .zero, ignoredEntries := .zero } })
        hw (h.trans {}) _ _ _

end

/-- With no request executing, no key work is asked for, and a key or lock save may be asked for on an open part. -/
theorem Keeps.askKeySave (h : Keeps s t) (hw : t.link.waiting = none) (hl : t.store.locked = false) (k : KeySave)
    (hk : k.limits = []) : Keeps s (t.askKeySave k) := by
  refine h.trans { nonces := ?_, keyWork := ?_ }
  · unfold State.noncesSafe
    simp [State.askKeySave, HistoryUnit.limitsAsked_eq, hk]
  · rintro ⟨-, h2⟩
    have hnone : t.hist.keyWork = [] := by
      by_contra hne
      have := (h2 hne).1
      rw [hw] at this
      cases this
    rw [HistoryUnit.keyWork_eq] at hnone
    obtain ⟨hwait, hjob⟩ := List.append_eq_nil_iff.mp hnone
    refine ⟨?_, fun _ => ⟨rfl, hl⟩⟩
    rw [HistoryUnit.keyWork_eq]
    show ((t.hist.keySaves ++ [k]).filter KeySave.writesKeys ++
      (jobKeySaves t.hist.saving).filter KeySave.writesKeys).length ≤ 1
    rw [List.filter_append, hwait, hjob]
    simpa using List.length_filter_le KeySave.writesKeys [k]

theorem Keeps.loadKey (h : Keeps s t) (hw : t.link.waiting = none) (p : List Byte) : Keeps s (t.loadKey p) := by
  have hne : t.link.waiting ≠ some .keySave := by simp [hw]
  unfold State.loadKey
  split
  · exact h.finish hne _ _ _
  · split
    · exact h.finish hne _ _ _
    · next hl => exact h.askKeySave hw (by simpa using hl) _ rfl

theorem Keeps.lockKeys (h : Keeps s t) (hw : t.link.waiting = none) : Keeps s t.lockKeys := by
  unfold State.lockKeys
  split
  · exact h.finish (by simp [hw]) _ _ _
  · next hl => exact h.askKeySave hw (by simpa using hl) _ rfl

/-- An answered query keeps everything. -/
theorem Keeps.query (h : Keeps s t) (hw : t.link.waiting ≠ some .keySave) {u : State}
    (k : ∃ r fs z, u = t.finishRequest r fs z) : Keeps s u := by
  obtain ⟨r, fs, z, rfl⟩ := k
  exact h.finish hw _ _ _

theorem Keeps.perform (h : Keeps s t) (hw : t.link.waiting = none) (r : Req) (p : List Byte) :
    Keeps s (r.perform t p) := by
  have hne : t.link.waiting ≠ some .keySave := by simp [hw]
  cases r with
  | partStatus => exact h.finish hne _ _ _
  | setPart => exact h.setPart hne p
  | configureChannel => exact h.configureChannel hne p
  | channelQuery =>
    refine h.query hne ?_
    simp only [Req.perform, State.channelQuery]
    split <;> exact ⟨_, _, _, rfl⟩
  | bayQuery =>
    refine h.query hne ?_
    simp only [Req.perform, State.bayQuery]
    split <;> exact ⟨_, _, _, rfl⟩
  | hold => exact h.holdChannel hne p
  | release => exact h.releaseChannel hne p
  | loadKey => exact h.loadKey hw p
  | lockKeys => exact h.lockKeys hw
  | keyCheck =>
    refine h.query hne ?_
    simp only [Req.perform, State.keyCheck]
    repeat' split
    all_goals exact ⟨_, _, _, rfl⟩
  | cartRead => exact h.cartReadRequest hne p
  | cartWrite => exact h.cartWriteRequest hne p
  | historyRead =>
    refine h.query hne ?_
    simp only [Req.perform, State.historyRead]
    repeat' split
    all_goals exact ⟨_, _, _, rfl⟩
  | historyForget => exact h.historyForget hne p
  | countersRead => exact h.countersRead hne p
  | flush => exact h.within ((Within.refl t).formFlush hne)
  | restart => exact h.within ((Within.refl t).formFlush hne)

theorem Keeps.close (h : Keeps s t) (r : Req) : Keeps s (r.close t) := by
  cases r <;> first | exact h.transmit | exact h.conclude

/-! ## The transmitter at the end of a command (R156) -/

theorem State.conclude_busy : t.conclude.transmitterBusy := State.transmit_busy _

theorem Req.close_busy (r : Req) (t : State) : (r.close t).transmitterBusy := by
  cases r <;> first | exact t.transmit_busy | exact t.conclude_busy


/-- The transmitter is idle only with nothing to send, as in `s` (R156): it acted at the end, or the link is as it was. -/
def BusyKept (s t : State) : Prop := s.transmitterBusy → t.transmitterBusy

theorem BusyKept.refl (s : State) : BusyKept s s := id
theorem BusyKept.transmit : BusyKept s t.transmit := fun _ => t.transmit_busy
theorem BusyKept.conclude : BusyKept s t.conclude := fun _ => t.conclude_busy
theorem BusyKept.ofLink (h : t.link = s.link) : BusyKept s t := fun k => by
  unfold State.transmitterBusy
  rw [h]
  exact k

theorem exec_request_keeps {r : Req} (h : exec r.instr s = .next t) : Keeps s t ∧ BusyKept s t := by
  cases hr : s.requestReady r with
  | none =>
    rw [exec_request_none hr] at h
    cases h
    exact ⟨Keeps.refl s, BusyKept.refl s⟩
  | some q =>
    rw [exec_request_some hr] at h
    cases h
    obtain ⟨rest, -, hw, -⟩ := s.requestReady_eq_some.mp hr
    exact ⟨((Keeps.refl s).reserve.perform hw r _).close r, fun _ => r.close_busy _⟩

end Sys2Proof.Machine

/-! Every command keeps the invariants of Safety.lean: the five statements about what a step keeps. -/

namespace Sys2Proof.Machine

variable {s t : State}

/-- What every command keeps, the transmitter's part among it. -/
def Kept (s t : State) : Prop := Keeps s t ∧ BusyKept s t

theorem Kept.refl (s : State) : Kept s s := ⟨Keeps.refl s, BusyKept.refl s⟩
theorem Keeps.keptTransmit (h : Keeps s t) : Kept s t.transmit := ⟨h.transmit, BusyKept.transmit⟩
theorem Keeps.keptConclude (h : Keeps s t) : Kept s t.conclude := ⟨h.conclude, BusyKept.conclude⟩
theorem Keeps.keptOfLink (h : Keeps s t) (k : t.link = s.link) : Kept s t := ⟨h, BusyKept.ofLink k⟩

/-- The clock moves and a bay's timer stops: where most timer commands begin. -/
theorem Keeps.timer (s : State) (n : Nat) (b : BayId) (f : Bay → Bay) : Keeps s ((s.advanceTo n).modBay b f) :=
  ((Keeps.refl s).advanceTo n).modBay b f

/-! ## Bay lines and timers -/

theorem execPresenceInputChange_kept {b : BayId} {x : Bool} (h : execPresenceInputChange b x s = .next t) :
    Kept s t := by
  have hset : Keeps s (s.setPresence b x) := (Keeps.refl s).trans {}
  unfold execPresenceInputChange at h
  split at h <;> cases h
  · exact (hset.modBay _ _).keptOfLink rfl
  · exact hset.keptOfLink rfl

theorem execPresenceDebounceExpiry_kept {b : BayId} (h : execPresenceDebounceExpiry b s = .next t) : Kept s t := by
  unfold execPresenceDebounceExpiry at h
  split at h
  · cases h; exact Kept.refl s
  · next n _ =>
    have hk := Keeps.timer s n b (fun v => { v with debounceAt := none })
    dsimp only at h
    split at h
    · cases h; exact hk.keptOfLink rfl
    · split at h <;> cases h
      · exact (hk.within ((Within.refl _).presenceRise b)).keptTransmit
      · exact (hk.within ((Within.refl _).removal b)).keptConclude

theorem execSettleTimerExpiry_kept {b : BayId} (h : execSettleTimerExpiry b s = .next t) : Kept s t := by
  unfold execSettleTimerExpiry at h
  split at h
  · cases h; exact Kept.refl s
  · next n _ =>
    have hk := Keeps.timer s n b (fun v => { v with settleAt := none })
    dsimp only at h
    split at h <;> cases h
    · exact (hk.within ((Within.refl _).startFirstLink b)).keptTransmit
    · exact ((hk.modBay _ _).raise _).keptTransmit

theorem execRelinkTimerExpiry_kept {b : BayId} (h : execRelinkTimerExpiry b s = .next t) : Kept s t := by
  unfold execRelinkTimerExpiry at h
  split at h
  · cases h; exact Kept.refl s
  · next n _ =>
    have hk := Keeps.timer s n b (fun v => { v with relinkAt := none })
    dsimp only at h
    split at h
    · cases h; exact hk.keptOfLink rfl
    · split at h <;> cases h
      · exact (hk.within ((Within.refl _).startLinkUp b)).keptTransmit
      · exact (hk.within ((Within.refl _).startFirstLink b)).keptTransmit

theorem execProbeReadingChange_kept {b : BayId} {x : BitVec 16} (h : execProbeReadingChange b x s = .next t) :
    Kept s t := by
  have hset : Keeps s (s.setProbe b x) := (Keeps.refl s).trans {}
  unfold execProbeReadingChange State.probeMoved at h
  cases h
  split
  · exact hset.keptOfLink rfl
  · split
    · exact (hset.modBay _ _).keptOfLink rfl
    · exact hset.keptOfLink rfl

theorem execProbeFilterExpiry_kept {b : BayId} (h : execProbeFilterExpiry b s = .next t) : Kept s t := by
  unfold execProbeFilterExpiry at h
  split at h
  · next n _ _ _ =>
    have hk := Keeps.timer s n b (fun v => { v with probeAt := none })
    dsimp only at h
    split at h <;> cases h
    · exact hk.keptOfLink rfl
    · exact (hk.within ((Within.refl _).probeChanged b _)).keptTransmit
  · cases h; exact Kept.refl s

theorem State.startWriteBack_link (b : BayId) : (s.startWriteBack b).link = s.link := by
  unfold State.startWriteBack
  split <;> rfl

theorem State.writeBackTrigger_link (b : BayId) (x : Bool) : (s.writeBackTrigger b x).link = s.link := by
  unfold State.writeBackTrigger
  split
  · exact s.modSeg_link _ _
  · rfl

theorem execWriteBackTimerExpiry_kept {b : BayId} (h : execWriteBackTimerExpiry b s = .next t) : Kept s t := by
  unfold execWriteBackTimerExpiry at h
  split at h
  · cases h; exact Kept.refl s
  · next n _ =>
    have hk := (Keeps.timer s n b (fun v => { v with writeBackAt := none })).within
      ((Within.refl _).writeBackTrigger b true)
    have hl : (((s.advanceTo n).modBay b (fun v => { v with writeBackAt := none })).writeBackTrigger b true).link =
        s.link := State.writeBackTrigger_link b true
    dsimp only at h
    split at h <;> cases h
    · exact hk.keptOfLink hl
    · exact (hk.within ((Within.refl _).startWriteBack b)).keptOfLink ((State.startWriteBack_link b).trans hl)

theorem execValveSwitchTimerExpiry_kept {c : ChanId} (h : execValveSwitchTimerExpiry c s = .next t) : Kept s t := by
  unfold execValveSwitchTimerExpiry at h
  split at h
  · cases h; exact Kept.refl s
  · next n _ =>
    split at h <;> cases h
    · have hserve : Keeps s ((s.advanceTo n).modChan c Channel.serve) :=
        ((Keeps.refl s).advanceTo n).setChan c _ (fun _ => by simp [Channel.serve, Channel.fits])
      exact ((hserve.raise _).within ((Within.refl _).choose c)).keptTransmit
    · exact Kept.refl s

/-! ## The bay bus -/

theorem execArbiterTake_kept {g : Segment} (h : execArbiterTake g s = .next t) : Kept s t := by
  unfold execArbiterTake at h
  split at h <;> cases h
  · exact (((Keeps.refl s).arbitrate g).within (Within.refl _).sweepExhausted).keptConclude
  · exact Kept.refl s

theorem State.stepOneDone_link (b : BayId) : (s.stepOneDone b).link = s.link := by
  unfold State.stepOneDone
  split
  · dsimp only
    split
    · exact State.modSeg_link _ _ _
    · rfl
  · rfl

theorem State.foldl_stepOneDone_link : ∀ (l : List BayId) (s : State), (l.foldl State.stepOneDone s).link = s.link
  | [], _ => rfl
  | b :: l, s => (State.foldl_stepOneDone_link l _).trans (s.stepOneDone_link b)

theorem State.frameSent_link (g : Segment) (x : Exchange) : (s.frameSent g x).link = s.link := by
  unfold State.frameSent
  split
  · exact (State.foldl_stepOneDone_link _ _).trans (State.modSeg_link _ _ _)
  · exact State.modSeg_link _ _ _

theorem execBusFrameEnd_kept {g : Segment} (h : execBusFrameEnd g s = .next t) : Kept s t := by
  unfold execBusFrameEnd at h
  split at h
  · cases h; exact Kept.refl s
  · next x _ =>
    split at h <;> cases h
    · exact (((Keeps.refl s).advanceTo _).within ((Within.refl _).frameSent g x)).keptOfLink (State.frameSent_link g x)
    · exact Kept.refl s

theorem Keeps.takenReply (h : Keeps s t) (n : Nat) (g : Segment) (x : Exchange) (d : List Byte) :
    Kept s (((t.advanceTo n).takeReply g x d).sweepExhausted.conclude) :=
  ((h.advanceTo n).within ((Within.refl _).takeReply g x d).sweepExhausted).keptConclude

theorem execBusReplyTaken_kept {g : Segment} {d : List Byte} (h : execBusReplyTaken g d s = .next t) : Kept s t := by
  unfold execBusReplyTaken at h
  split at h
  · cases h; exact Kept.refl s
  · split at h <;> cases h
    · exact (Keeps.refl s).takenReply _ _ _ _
    · exact Kept.refl s

theorem execBusReplyGapTimeout_kept {g : Segment} {d : List Byte} (h : execBusReplyGapTimeout g d s = .next t) :
    Kept s t := by
  unfold execBusReplyGapTimeout at h
  split at h
  · cases h; exact Kept.refl s
  · split at h <;> cases h
    · exact (Keeps.refl s).takenReply _ _ _ _
    · exact Kept.refl s

theorem execBusReplyWindowTimeout_kept {g : Segment} (h : execBusReplyWindowTimeout g s = .next t) : Kept s t := by
  unfold execBusReplyWindowTimeout at h
  split at h
  · cases h; exact Kept.refl s
  · cases h
    exact (((Keeps.refl s).advanceTo _).within ((Within.refl _).noReplyTaken g _).sweepExhausted).keptConclude

theorem Keeps.keptModEntry (n : Nat) (b : BayId) (k : EntryClass) (f : BusEntry → BusEntry) :
    Kept s ((s.advanceTo n).modEntry b k f) :=
  (((Keeps.refl s).advanceTo n).within ((Within.refl _).modEntry b k f)).keptOfLink (State.modSeg_link _ _ _)

theorem execPollDue_kept {b : BayId} (h : execPollDue b s = .next t) : Kept s t := by
  unfold execPollDue at h
  split at h
  · cases h; exact Kept.refl s
  · split at h <;> cases h
    · exact Kept.refl s
    · exact Keeps.keptModEntry _ _ _ _

theorem execSplitWriteDeadline_kept {b : BayId} (h : execSplitWriteDeadline b s = .next t) : Kept s t := by
  unfold execSplitWriteDeadline at h
  split at h
  · cases h; exact Kept.refl s
  · split at h
    · cases h; exact Kept.refl s
    · split at h
      · cases h; exact Kept.refl s
      · split at h <;> cases h
        · exact Keeps.keptModEntry _ _ _ _
        · exact (((Keeps.refl s).advanceTo _).within ((Within.refl _).endTransaction _ _ _ _ _)).keptConclude

/-! ## The host link and the Metering Unit -/

theorem execFrameReceived_kept {f : HostFrame} (h : execFrameReceived f s = .next t) : Kept s t := by
  unfold execFrameReceived at h
  split at h
  · split at h <;> cases h
    · exact (Keeps.refl s).abandonFrame.keptTransmit
    · exact (((Keeps.refl s).setFramer _).takeFrame f).keptTransmit
  · cases h; exact Kept.refl s

theorem execLinkFramingError_kept (h : execLinkFramingError s = .next t) : Kept s t := by
  unfold execLinkFramingError at h
  split at h <;> cases h
  · exact (Keeps.refl s).lineBreak.keptTransmit
  · exact Kept.refl s

theorem execLinkGapTimeout_kept (h : execLinkGapTimeout s = .next t) : Kept s t := by
  unfold execLinkGapTimeout at h
  split at h <;> cases h
  · exact (Keeps.refl s).advanceGap.lineBreak.keptTransmit
  · exact Kept.refl s

theorem execReceivedByte_kept {x : Byte} (h : execReceivedByte x s = .next t) : Kept s t := by
  unfold execReceivedByte at h
  split at h <;> cases h
  · exact ((Keeps.refl s).receiveByte x).keptTransmit
  · exact Kept.refl s

theorem execTakeDropEntry_kept (h : execTakeDropEntry s = .next t) : Kept s t := by
  unfold execTakeDropEntry at h
  split at h <;> cases h
  · exact Kept.refl s
  · next e es _ =>
    have htaken : Keeps s { s with meterHand := es } := (Keeps.refl s).trans {}
    exact (htaken.meterEntry e).refillHand.keptTransmit

theorem BusyKept.reset (k : StartCause) : BusyKept s (t.beginReset k) := fun _ _ => ⟨rfl, rfl⟩

theorem execLinkFrameSent_kept (h : execLinkFrameSent s = .next t) : Kept s t := by
  unfold execLinkFrameSent at h
  split at h
  · cases h; exact Kept.refl s
  · have hfree : Keeps s { s with link := { s.link with tx := none } } := (Keeps.refl s).trans {}
    dsimp only at h
    split at h <;> cases h
    · exact ⟨(hfree.trans (Keeps.beginReset _ _)).endReset rfl, fun _ _ => ⟨rfl, rfl⟩⟩
    · exact hfree.keptTransmit

/-! ## Resets, start-up, the store and the power-fail warning -/

theorem beginReset_kept {k : StartCause} (h : Host.Outcome.next (s.beginReset k) = .next (φ := Fault) (ρ := Refusal) t) :
    Kept s t := by
  cases h
  exact ⟨Keeps.beginReset s k, BusyKept.reset k⟩

theorem execResetEnd_kept (h : execResetEnd s = .next t) : Kept s t := by
  unfold execResetEnd at h
  split at h <;> cases h
  · next hp => exact ⟨(Keeps.refl s).endReset hp, fun k => k⟩
  · exact Kept.refl s

theorem execStoreScanComplete_kept (h : execStoreScanComplete s = .next t) : Kept s t := by
  unfold execStoreScanComplete at h
  split at h <;> cases h
  · next hp => exact ((Keeps.refl s).scanComplete hp).keptConclude
  · exact Kept.refl s

theorem State.beginClassThree_link : s.beginClassThree.link = s.link := by
  unfold State.beginClassThree
  repeat' split
  all_goals rfl

theorem State.beginSave_link : s.beginSave.link = s.link := by
  unfold State.beginSave
  split
  · rfl
  · split
    · exact s.refresh_link _
    · exact s.beginClassThree_link

theorem execStoreSaveBegin_kept (h : execStoreSaveBegin s = .next t) : Kept s t := by
  unfold execStoreSaveBegin at h
  split at h <;> cases h
  · next hidle => exact ((Keeps.refl s).beginSave hidle).keptOfLink s.beginSave_link
  · exact Kept.refl s

theorem execStoreSaveComplete_kept (h : execStoreSaveComplete s = .next t) : Kept s t := by
  unfold execStoreSaveComplete at h
  split at h <;> cases h
  · exact Kept.refl s
  · next hsv => exact (Keeps.completeSave hsv).keptConclude

theorem execPfwarnInputChange_kept {x : Bool} (h : execPfwarnInputChange x s = .next t) : Kept s t := by
  unfold execPfwarnInputChange at h
  dsimp only at h
  split at h <;> cases h
  · exact Keeps.keptOfLink ((Keeps.refl s).trans {}) rfl
  · exact Keeps.keptOfLink ((Keeps.refl s).trans {}) rfl

theorem execPfwarnDebounceExpiry_kept (h : execPfwarnDebounceExpiry s = .next t) : Kept s t := by
  unfold execPfwarnDebounceExpiry at h
  split at h
  · cases h; exact Kept.refl s
  · next n _ =>
    have hstop : Keeps s ((s.advanceTo n).modHist (fun h => { h with pfAt := none })) := (Keeps.refl s).trans {}
    dsimp only at h
    split at h
    · cases h; exact hstop.keptOfLink rfl
    · have hlevel : Keeps s (((s.advanceTo n).modHist (fun h => { h with pfAt := none })).modHist
          (fun h => { h with pfLevel := s.pins.pfwarn })) := hstop.trans {}
      split at h <;> cases h
      · exact (hlevel.within (Within.refl _).pfChanged).keptConclude
      · exact hlevel.keptOfLink rfl

/-! ## A command, and a step -/

/-- Every command keeps the invariants. -/
theorem exec_kept (i : Instr) (h : exec i s = .next t) : Kept s t := by
  cases i with
  | presenceInputChange b x => exact execPresenceInputChange_kept h
  | presenceDebounceExpiry b => exact execPresenceDebounceExpiry_kept h
  | settleTimerExpiry b => exact execSettleTimerExpiry_kept h
  | relinkTimerExpiry b => exact execRelinkTimerExpiry_kept h
  | probeReadingChange b x => exact execProbeReadingChange_kept h
  | probeFilterExpiry b => exact execProbeFilterExpiry_kept h
  | writeBackTimerExpiry b => exact execWriteBackTimerExpiry_kept h
  | valveSwitchTimerExpiry c => exact execValveSwitchTimerExpiry_kept h
  | arbiterTake g => exact execArbiterTake_kept h
  | busFrameEnd g => exact execBusFrameEnd_kept h
  | busReplyTaken g d => exact execBusReplyTaken_kept h
  | busReplyGapTimeout g d => exact execBusReplyGapTimeout_kept h
  | busReplyWindowTimeout g => exact execBusReplyWindowTimeout_kept h
  | pollDue b => exact execPollDue_kept h
  | splitWriteDeadline b => exact execSplitWriteDeadline_kept h
  | frameReceived f => exact execFrameReceived_kept h
  | linkFramingError => exact execLinkFramingError_kept h
  | linkGapTimeout => exact execLinkGapTimeout_kept h
  | takeDropEntry => exact execTakeDropEntry_kept h
  | partStatus => exact exec_request_keeps (r := .partStatus) h
  | setPart => exact exec_request_keeps (r := .setPart) h
  | configureChannel => exact exec_request_keeps (r := .configureChannel) h
  | channelQuery => exact exec_request_keeps (r := .channelQuery) h
  | bayQuery => exact exec_request_keeps (r := .bayQuery) h
  | hold => exact exec_request_keeps (r := .hold) h
  | release => exact exec_request_keeps (r := .release) h
  | loadKey => exact exec_request_keeps (r := .loadKey) h
  | lockKeys => exact exec_request_keeps (r := .lockKeys) h
  | keyCheck => exact exec_request_keeps (r := .keyCheck) h
  | cartRead => exact exec_request_keeps (r := .cartRead) h
  | cartWrite => exact exec_request_keeps (r := .cartWrite) h
  | historyRead => exact exec_request_keeps (r := .historyRead) h
  | historyForget => exact exec_request_keeps (r := .historyForget) h
  | countersRead => exact exec_request_keeps (r := .countersRead) h
  | flush => exact exec_request_keeps (r := .flush) h
  | restart => exact exec_request_keeps (r := .restart) h
  | linkFrameSent => exact execLinkFrameSent_kept h
  | powerOn => exact beginReset_kept h
  | brownout => exact beginReset_kept h
  | pinReset => exact beginReset_kept h
  | resetEnd => exact execResetEnd_kept h
  | storeScanComplete => exact execStoreScanComplete_kept h
  | storeSaveBegin => exact execStoreSaveBegin_kept h
  | storeSaveComplete => exact execStoreSaveComplete_kept h
  | pfwarnInputChange x => exact execPfwarnInputChange_kept h
  | pfwarnDebounceExpiry => exact execPfwarnDebounceExpiry_kept h
  | receivedByte x => exact execReceivedByte_kept h

/-- Every step keeps the invariants. -/
theorem step_kept (h : step s = .next t) : Kept s t := by
  unfold step at h
  split at h
  · cases h
    exact Keeps.keptOfLink ((Keeps.refl s).trans {}) rfl
  · next rest _ =>
    have hpop : Keeps s { s with pending := rest } := (Keeps.refl s).trans {}
    obtain ⟨hk, hb⟩ := exec_kept _ h
    exact ⟨hpop.trans hk, hb⟩

/-- A channel that fits and is not SERVING asserts its hold line. -/
theorem Channel.fits.serving {h : Channel} (k : h.fits) (l : h.causes.any = false) : h.state = .serving := by
  obtain ⟨hu, hc, hs⟩ := k
  simp only [HoldCauses.any, Bool.or_eq_false_iff] at l
  obtain ⟨⟨⟨⟨l1, l2⟩, l3⟩, -⟩, -⟩ := l
  cases hst : h.state with
  | serving => rfl
  | unconfigured => simp [hu hst] at l1
  | changing => simp [hc hst] at l3
  | starved => simp [hs hst] at l2

/-- Settles O55. -/
theorem everyStepKeepsTheHoldCauses : Obligations.EveryStepKeepsTheHoldCauses := by
  intro s t hs h
  obtain ⟨hk, -⟩ := step_kept h
  exact ⟨fun c => hk.fits c (hs c), fun c hl => (hk.fits c (hs c)).serving hl⟩

/-- Settles O56. -/
theorem everyStepKeepsTheSerialsDistinct : Obligations.EveryStepKeepsTheSerialsDistinct := by
  intro s t hs h
  obtain ⟨hk, -⟩ := step_kept h
  exact hk.serials hs

/-- Settles O57. -/
theorem everyStepKeepsTheNoticesInOrder : Obligations.EveryStepKeepsTheNoticesInOrder := by
  intro s t h
  obtain ⟨hk, hb⟩ := step_kept h
  exact ⟨hk.notices, hb⟩

/-- Settles O58. -/
theorem everyStepKeepsTheNoncesSafe : Obligations.EveryStepKeepsTheNoncesSafe := by
  intro s t hs h
  obtain ⟨hk, -⟩ := step_kept h
  exact hk.nonces hs

/-- Settles O59. -/
theorem lockedKeysArePermanent : Obligations.LockedKeysArePermanent := by
  intro s t hs h
  obtain ⟨hk, -⟩ := step_kept h
  exact ⟨hk.keyWork hs, hk.locked hs⟩

/-- Settles O60: every list of the first reset is empty, and its channels are UNCONFIGURED with that cause. -/
theorem resetMeetsTheInvariants : Obligations.ResetMeetsTheInvariants := by
  refine ⟨State.reset_chan_fits, List.nodup_nil, ⟨Nat.zero_le _, fun h => absurd rfl h, List.Pairwise.nil⟩, ?_,
    ⟨Nat.zero_le _, fun h => absurd rfl h⟩, fun _ => ⟨rfl, rfl⟩⟩
  have hasked : State.reset.hist.limitsAsked = [] := rfl
  exact ⟨fun h => (by cases h), by simp [hasked], by simp [hasked], fun _ => ⟨rfl, rfl, rfl⟩⟩

end Sys2Proof.Machine

/-! Reading a field after the end of a command: the transmitter changes the Link Interface alone, and the examination of
the sets beside it the power-fail state (R156, R171, R173, log 5). -/

namespace Sys2Proof.Machine

variable (s : State)

/-! ## The transmitter -/

@[simp] theorem State.transmit_now : s.transmit.now = s.now := (congrArg State.now s.transmit_eq :)
@[simp] theorem State.transmit_pending : s.transmit.pending = s.pending := (congrArg State.pending s.transmit_eq :)
@[simp] theorem State.transmit_freeCount : s.transmit.freeCount = s.freeCount := (congrArg State.freeCount s.transmit_eq :)
@[simp] theorem State.transmit_pins : s.transmit.pins = s.pins := (congrArg State.pins s.transmit_eq :)
@[simp] theorem State.transmit_phase : s.transmit.phase = s.phase := (congrArg State.phase s.transmit_eq :)
@[simp] theorem State.transmit_cause : s.transmit.cause = s.cause := (congrArg State.cause s.transmit_eq :)
@[simp] theorem State.transmit_ageLimit : s.transmit.ageLimit = s.ageLimit := (congrArg State.ageLimit s.transmit_eq :)
@[simp] theorem State.transmit_doubtThreshold : s.transmit.doubtThreshold = s.doubtThreshold := (congrArg State.doubtThreshold s.transmit_eq :)
@[simp] theorem State.transmit_refillThreshold : s.transmit.refillThreshold = s.refillThreshold := (congrArg State.refillThreshold s.transmit_eq :)
@[simp] theorem State.transmit_bays : s.transmit.bays = s.bays := (congrArg State.bays s.transmit_eq :)
@[simp] theorem State.transmit_chans : s.transmit.chans = s.chans := (congrArg State.chans s.transmit_eq :)
@[simp] theorem State.transmit_meters : s.transmit.meters = s.meters := (congrArg State.meters s.transmit_eq :)
@[simp] theorem State.transmit_meterQueue : s.transmit.meterQueue = s.meterQueue := (congrArg State.meterQueue s.transmit_eq :)
@[simp] theorem State.transmit_meterHand : s.transmit.meterHand = s.meterHand := (congrArg State.meterHand s.transmit_eq :)
@[simp] theorem State.transmit_segL : s.transmit.segL = s.segL := (congrArg State.segL s.transmit_eq :)
@[simp] theorem State.transmit_segR : s.transmit.segR = s.segR := (congrArg State.segR s.transmit_eq :)
@[simp] theorem State.transmit_challenge : s.transmit.challenge = s.challenge := (congrArg State.challenge s.transmit_eq :)
@[simp] theorem State.transmit_store : s.transmit.store = s.store := (congrArg State.store s.transmit_eq :)
@[simp] theorem State.transmit_hist : s.transmit.hist = s.hist := (congrArg State.hist s.transmit_eq :)
@[simp] theorem State.transmit_link_framer : s.transmit.link.framer = s.link.framer :=
  (congrArg (fun t => t.link.framer) s.transmit_eq :)
@[simp] theorem State.transmit_link_intake : s.transmit.link.intake = s.link.intake :=
  (congrArg (fun t => t.link.intake) s.transmit_eq :)
@[simp] theorem State.transmit_link_waiting : s.transmit.link.waiting = s.link.waiting :=
  (congrArg (fun t => t.link.waiting) s.transmit_eq :)
@[simp] theorem State.transmit_link_reserved : s.transmit.link.reserved = s.link.reserved :=
  (congrArg (fun t => t.link.reserved) s.transmit_eq :)
@[simp] theorem State.transmit_link_badFrames : s.transmit.link.badFrames = s.link.badFrames :=
  (congrArg (fun t => t.link.badFrames) s.transmit_eq :)
@[simp] theorem State.transmit_link_droppedRefusals : s.transmit.link.droppedRefusals = s.link.droppedRefusals :=
  (congrArg (fun t => t.link.droppedRefusals) s.transmit_eq :)
@[simp] theorem State.transmit_link_ignoredEntries : s.transmit.link.ignoredEntries = s.link.ignoredEntries :=
  (congrArg (fun t => t.link.ignoredEntries) s.transmit_eq :)
@[simp] theorem State.transmit_link_rate : s.transmit.link.rate = s.link.rate :=
  (congrArg (fun t => t.link.rate) s.transmit_eq :)
@[simp] theorem State.bay_transmit (b : BayId) : s.transmit.bay b = s.bay b := by simp [State.bay]
@[simp] theorem State.chan_transmit (c : ChanId) : s.transmit.chan c = s.chan c := by simp [State.chan]
@[simp] theorem State.meter_transmit (c : ChanId) : s.transmit.meter c = s.meter c := by simp [State.meter]
@[simp] theorem State.seg_transmit (g : Segment) : s.transmit.seg g = s.seg g := by cases g <;> simp [State.seg]

/-! ## The examination of the sets, and the end of a command -/

theorem State.pfCheck_eq : s.pfCheck = { s with hist := { s.hist with pf := s.pfCheck.hist.pf }, link := s.pfCheck.link } := by
  unfold State.pfCheck State.raisePower
  split
  · split
    · conv_lhs => rw [State.raise_eq]
      simp [State.setPf]
    · conv_lhs => rw [State.raise_eq]
      simp [State.setPf]
    · rfl
    · rfl
  · rfl

/-- The examination of the power-fail set only raises notices. -/
theorem State.noteOnly_pfCheck : NoteOnly s.link s.pfCheck.link := by
  have hraised (p : PfState) (n : Notice) : NoteOnly s.link ((s.setPf p).raise n).link :=
    State.noteOnly_raise (s := s.setPf p) n
  unfold State.pfCheck State.raisePower
  repeat' split
  all_goals first | exact NoteOnly.refl _ | exact hraised _ _

theorem State.flushCheck_eq : s.flushCheck = { s with link := s.flushCheck.link } := by
  unfold State.flushCheck
  split
  · split
    · unfold State.finishRequest
      split <;> rfl
    · rfl
  · rfl

/-- With no flush waiting the flush examination does nothing. -/
theorem State.flushCheck_of_not_flush (h : ∀ ms, s.link.waiting ≠ some (.flush ms)) : s.flushCheck = s := by
  unfold State.flushCheck
  split
  · next ms k => exact absurd k (h ms)
  · rfl

/-- The state with another Link Interface. -/
def State.withLink (s : State) (li : LinkUnit) : State := { s with link := li }

theorem State.conclude_eq :
    s.conclude = { s with hist := { s.hist with pf := s.pfCheck.hist.pf }, link := s.conclude.link } := by
  calc s.conclude = s.pfCheck.flushCheck.withLink s.conclude.link := s.pfCheck.flushCheck.transmit_onlyLink
    _ = s.pfCheck.withLink s.conclude.link := 
      (congrArg (fun x : State => x.withLink s.conclude.link) s.pfCheck.flushCheck_eq :)
    _ = _ := (congrArg (fun x : State => x.withLink s.conclude.link) s.pfCheck_eq :)

@[simp] theorem State.conclude_hist_pf : s.conclude.hist.pf = s.pfCheck.hist.pf := (congrArg (fun t => t.hist.pf) s.conclude_eq :)

@[simp] theorem State.conclude_now : s.conclude.now = s.now := (congrArg State.now s.conclude_eq :)
@[simp] theorem State.conclude_pending : s.conclude.pending = s.pending := (congrArg State.pending s.conclude_eq :)
@[simp] theorem State.conclude_freeCount : s.conclude.freeCount = s.freeCount := (congrArg State.freeCount s.conclude_eq :)
@[simp] theorem State.conclude_pins : s.conclude.pins = s.pins := (congrArg State.pins s.conclude_eq :)
@[simp] theorem State.conclude_phase : s.conclude.phase = s.phase := (congrArg State.phase s.conclude_eq :)
@[simp] theorem State.conclude_cause : s.conclude.cause = s.cause := (congrArg State.cause s.conclude_eq :)
@[simp] theorem State.conclude_ageLimit : s.conclude.ageLimit = s.ageLimit := (congrArg State.ageLimit s.conclude_eq :)
@[simp] theorem State.conclude_doubtThreshold : s.conclude.doubtThreshold = s.doubtThreshold := (congrArg State.doubtThreshold s.conclude_eq :)
@[simp] theorem State.conclude_refillThreshold : s.conclude.refillThreshold = s.refillThreshold := (congrArg State.refillThreshold s.conclude_eq :)
@[simp] theorem State.conclude_bays : s.conclude.bays = s.bays := (congrArg State.bays s.conclude_eq :)
@[simp] theorem State.conclude_chans : s.conclude.chans = s.chans := (congrArg State.chans s.conclude_eq :)
@[simp] theorem State.conclude_meters : s.conclude.meters = s.meters := (congrArg State.meters s.conclude_eq :)
@[simp] theorem State.conclude_meterQueue : s.conclude.meterQueue = s.meterQueue := (congrArg State.meterQueue s.conclude_eq :)
@[simp] theorem State.conclude_meterHand : s.conclude.meterHand = s.meterHand := (congrArg State.meterHand s.conclude_eq :)
@[simp] theorem State.conclude_segL : s.conclude.segL = s.segL := (congrArg State.segL s.conclude_eq :)
@[simp] theorem State.conclude_segR : s.conclude.segR = s.segR := (congrArg State.segR s.conclude_eq :)
@[simp] theorem State.conclude_challenge : s.conclude.challenge = s.challenge := (congrArg State.challenge s.conclude_eq :)
@[simp] theorem State.conclude_store : s.conclude.store = s.store := (congrArg State.store s.conclude_eq :)
@[simp] theorem State.conclude_hist_table : s.conclude.hist.table = s.hist.table :=
  (congrArg (fun t => t.hist.table) s.conclude_eq :)
@[simp] theorem State.conclude_hist_removals : s.conclude.hist.removals = s.hist.removals :=
  (congrArg (fun t => t.hist.removals) s.conclude_eq :)
@[simp] theorem State.conclude_hist_keySaves : s.conclude.hist.keySaves = s.hist.keySaves :=
  (congrArg (fun t => t.hist.keySaves) s.conclude_eq :)
@[simp] theorem State.conclude_hist_saving : s.conclude.hist.saving = s.hist.saving :=
  (congrArg (fun t => t.hist.saving) s.conclude_eq :)
@[simp] theorem State.conclude_hist_linkSeq : s.conclude.hist.linkSeq = s.hist.linkSeq :=
  (congrArg (fun t => t.hist.linkSeq) s.conclude_eq :)
@[simp] theorem State.conclude_hist_writeOrder : s.conclude.hist.writeOrder = s.hist.writeOrder :=
  (congrArg (fun t => t.hist.writeOrder) s.conclude_eq :)
@[simp] theorem State.conclude_hist_lostOwed : s.conclude.hist.lostOwed = s.hist.lostOwed :=
  (congrArg (fun t => t.hist.lostOwed) s.conclude_eq :)
@[simp] theorem State.conclude_hist_lastNotice : s.conclude.hist.lastNotice = s.hist.lastNotice :=
  (congrArg (fun t => t.hist.lastNotice) s.conclude_eq :)
@[simp] theorem State.conclude_hist_torn : s.conclude.hist.torn = s.hist.torn :=
  (congrArg (fun t => t.hist.torn) s.conclude_eq :)
@[simp] theorem State.conclude_hist_pfSet : s.conclude.hist.pfSet = s.hist.pfSet :=
  (congrArg (fun t => t.hist.pfSet) s.conclude_eq :)
@[simp] theorem State.conclude_hist_pfLevel : s.conclude.hist.pfLevel = s.hist.pfLevel :=
  (congrArg (fun t => t.hist.pfLevel) s.conclude_eq :)
@[simp] theorem State.conclude_hist_pfAt : s.conclude.hist.pfAt = s.hist.pfAt :=
  (congrArg (fun t => t.hist.pfAt) s.conclude_eq :)
@[simp] theorem State.bay_conclude (b : BayId) : s.conclude.bay b = s.bay b := by simp [State.bay]
@[simp] theorem State.chan_conclude (c : ChanId) : s.conclude.chan c = s.chan c := by simp [State.chan]
@[simp] theorem State.meter_conclude (c : ChanId) : s.conclude.meter c = s.meter c := by simp [State.meter]
@[simp] theorem State.seg_conclude (g : Segment) : s.conclude.seg g = s.seg g := by cases g <;> simp [State.seg]

section
variable {s}

/-- With no flush waiting the end of a command only raises notices and sends. -/
theorem State.onlyNotices_conclude (h : ∀ ms, s.link.waiting ≠ some (.flush ms)) :
    s.link.onlyNotices s.conclude.link := by
  unfold State.conclude
  rw [State.flushCheck_of_not_flush]
  · exact State.noteOnly_transmit s.noteOnly_pfCheck
  · intro ms k
    exact h ms ((congrArg LinkUnit.waiting s.noteOnly_pfCheck.eq :).symm.trans k)

/-- Notices raised before the end of a command, and what the end of the command does. -/
theorem NoteOnly.conclude {a : LinkUnit} (h : NoteOnly a s.link) (hw : ∀ ms, s.link.waiting ≠ some (.flush ms)) :
    a.onlyNotices s.conclude.link := by
  obtain ⟨h1, h2⟩ := State.onlyNotices_conclude hw
  refine ⟨?_, h2.trans h.replyFrames⟩
  rw [h1, h.eq]

/-- A notice raised is told at the end of the command. -/
theorem State.told_conclude {t : State} {k : NoticeKey} (h : Told t.link k) (e : t.link.tx = s.link.tx) :
    s.notified t.conclude k := by
  have hpf : Told t.pfCheck.link k := by
    unfold State.pfCheck State.raisePower
    repeat' split
    all_goals first | exact h | exact State.told_raise_other _ h
  have hflush : Told t.pfCheck.flushCheck.link k := by
    unfold State.flushCheck
    repeat' split
    · simpa [Told, LinkUnit.holdsNotice] using hpf
    · exact hpf
    · exact hpf
  refine State.told_transmit hflush ?_
  have htx : t.pfCheck.flushCheck.link.tx = t.pfCheck.link.tx := by
    unfold State.flushCheck
    repeat' split
    · simp
    · rfl
    · rfl
  rw [htx, t.noteOnly_pfCheck.tx, e]

theorem LinkUnit.onlyNotices.intake {a b : LinkUnit} (h : a.onlyNotices b) : b.intake = a.intake :=
  (congrArg LinkUnit.intake h.1 :)
theorem LinkUnit.onlyNotices.waiting {a b : LinkUnit} (h : a.onlyNotices b) : b.waiting = a.waiting :=
  (congrArg LinkUnit.waiting h.1 :)
theorem LinkUnit.onlyNotices.reserved {a b : LinkUnit} (h : a.onlyNotices b) : b.reserved = a.reserved :=
  (congrArg LinkUnit.reserved h.1 :)

/-- A set that is not done, and a state that no set moves, leave the power-fail state. -/
theorem State.pfCheck_of_settled (h : s.hist.pf = .normal ∨ s.hist.pf = .saved) : s.pfCheck = s := by
  unfold State.pfCheck
  rcases h with h | h <;> simp [h]

end

/-! ## The end of a request -/

section
variable {s} {q : Request} {rest : List Request}

theorem State.finishRequest_of_intake (h : s.link.intake = q :: rest) (r : Result) (fs : List Byte) (z : Bool) :
    s.finishRequest r fs z = { s with link := { s.link with
      intake := rest, waiting := none, reserved := false
      replies := s.link.replies ++ [⟨q.tag, q.kind :: r.code :: fs, z⟩] } } := by
  simp [State.finishRequest, h]

/-- A finished request is answered, whatever notices and frames follow. -/
theorem State.finishRequest_answered {t : State} (h : s.link.intake = q :: rest) (r : Result) (fs : List Byte) (z : Bool)
    (k : (s.finishRequest r fs z).link.onlyNotices t.link) : s.answered t q rest r fs := by
  have hframes := k.2
  refine ⟨k.intake.trans ?_, k.waiting.trans ?_, k.reserved.trans ?_, hframes.trans ?_⟩ <;>
    rw [State.finishRequest_of_intake h]
  simp [LinkUnit.replyFrames, replyFrame]

theorem State.finishRequest_answered_conclude (h : s.link.intake = q :: rest) (r : Result) (fs : List Byte) (z : Bool) :
    s.answered (s.finishRequest r fs z).conclude q rest r fs := by
  refine State.finishRequest_answered h r fs z (State.onlyNotices_conclude fun ms => ?_)
  rw [State.finishRequest_of_intake h]
  simp

/-- The answer to a request, from a state whose link has the same intake and reply frames. -/
theorem State.answered.of_link {u t : State} {r : Result} {fs : List Byte} (h : s.answered t q rest r fs)
    (k : s.link.replyFrames = u.link.replyFrames) : u.answered t q rest r fs := by
  obtain ⟨h1, h2, h3, h4⟩ := h
  exact ⟨h1, h2, h3, h4.trans (by rw [k])⟩

/-- A request finished in a state with the link of `u` is answered as of `u`. -/
theorem State.finishRequest_answered_conclude_of_link {u : State} (k : s.link = u.link)
    (h : u.link.intake = q :: rest) (r : Result) (fs : List Byte) (z : Bool) :
    u.answered (s.finishRequest r fs z).conclude q rest r fs :=
  (State.finishRequest_answered_conclude (by rw [k, h]) r fs z).of_link (by rw [k])

end

end Sys2Proof.Machine

/-! The block, resets, and the retained store's arbiter (R142 to R144, R168, R169). -/

namespace Sys2Proof.Machine

/-! ## The block -/

/-- Settles O1. -/
theorem stepRunsTheFrontCommand : Obligations.StepRunsTheFrontCommand := by
  refine ⟨fun c rest s => rfl, fun s h => ?_⟩
  unfold step
  split
  · rfl
  · next h' => rw [h] at h'; cases h'

theorem State.reset_bay (b : BayId) : State.reset.bay b = Bay.reset := by simp [State.bay, State.reset]
theorem State.reset_chan (c : ChanId) : State.reset.chan c = Channel.reset := by simp [State.chan, State.reset]
theorem State.reset_meter (c : ChanId) : State.reset.meter c = Meter.reset := by simp [State.meter, State.reset]

/-- Settles O2. -/
theorem resetStateHoldsTheResetValues : Obligations.ResetStateHoldsTheResetValues := by
  refine ⟨fun b => State.reset_bay b, fun c => State.reset_chan c, fun c => State.reset_meter c, rfl, rfl, fun g => ?_,
    rfl, rfl, rfl, rfl, rfl, rfl, rfl, rfl, rfl, rfl, rfl, rfl, rfl, rfl, rfl, rfl, rfl, rfl, rfl, rfl, rfl, rfl, rfl,
    rfl, rfl, fun k => ?_, rfl, rfl, fun sl => ?_, rfl, rfl⟩
  · cases g <;> rfl
  · simp [State.reset, Store.manufactured]
  · simp [State.reset, Store.manufactured]

/-! ## Resets (R168, R169) -/

/-- A cut save has reached the store or has not (log 11). -/
theorem Store.cut_eq (st : Store) (landed : Bool) (sv : Option SaveInProgress) :
    st.cut landed sv = st ∨ st.cut landed sv = st.cut true sv := by
  cases landed
  · left
    rcases sv with _ | ⟨_ | _ | _, _, _⟩ <;> rfl
  · exact .inr rfl

/-- The cause that R168 keeps is one of the two, and the earlier in its order. -/
theorem StartCause.merge_least (a b : StartCause) :
    (a.merge b = b ∨ a.merge b = a) ∧ (a.merge b).code ≤ b.code ∧ (a.merge b).code ≤ a.code := by
  cases a <;> cases b <;> decide

/-- Settles O3: the three commands are one reset, each with its own cause. -/
theorem resetClearsVolatileState : Obligations.ResetClearsVolatileState := by
  intro s c k hck
  have hexec : exec c s = .next (s.beginReset k) := by
    rcases hck with ⟨rfl, rfl⟩ | ⟨rfl, rfl⟩ | ⟨rfl, rfl⟩ <;> rfl
  refine ⟨_, hexec, rfl, fun h => ?_, fun h => ?_, rfl, rfl, rfl, rfl, rfl, rfl, rfl, rfl, rfl, rfl, rfl, rfl,
    fun ch => ?_, rfl, rfl, rfl, rfl, s.store.cut_eq _ _, fun h => ?_, rfl, rfl⟩
  · simp [State.beginReset, h]
  · simpa [State.beginReset, h] using s.cause.merge_least k
  · have hch : (s.beginReset k).chan ch = Channel.reset := State.reset_chan ch
    simp [State.holdLine, State.valveLine, hch, Channel.reset, HoldCauses.any]
  · simp [State.beginReset, h, Store.cut]

/-- Settles O4. -/
theorem resetEndBeginsStartUp : Obligations.ResetEndBeginsStartUp := by
  intro s h
  have hexec : exec .resetEnd s = .next s.endReset := by simp [exec, execResetEnd, h]
  exact ⟨_, hexec, rfl, fun b => by simp [State.bay, State.endReset, Config.debounceUs], rfl, rfl, rfl, rfl⟩

/-! ## The idle arbiter's choice (R142) -/

variable {s : State}

theorem exec_storeSaveBegin (h : s.hist.saving = none) : exec .storeSaveBegin s = .next s.beginSave := by
  simp [exec, execStoreSaveBegin, h]

theorem allBays_split : ∀ b : BayId, allBays = allBays.take b.val ++ b :: allBays.drop (b.val + 1) ∧
    ∀ x ∈ allBays.take b.val, x < b := by decide

/-- The class-2 save is that of the lowest bay whose pinned entry has one. -/
theorem State.classTwo_eq_some {b : BayId} {e : Entry} (he : s.pinnedBy b = some e) (hp : e.pfSave = true)
    (hlow : ∀ x e', x < b → s.pinnedBy x = some e' → e'.pfSave = false) : s.classTwo = some (b, e) := by
  obtain ⟨hsplit, hbefore⟩ := allBays_split b
  unfold State.classTwo
  rw [List.findSome?_eq_some_iff]
  refine ⟨_, b, _, hsplit, by simp [he, hp], fun x hx => ?_⟩
  cases hpin : s.pinnedBy x with
  | none => rfl
  | some e' => simp [hlow x e' (hbefore x hx) hpin]

theorem State.classTwo_eq_none (h : ∀ b e, s.pinnedBy b = some e → e.pfSave = false) : s.classTwo = none := by
  unfold State.classTwo
  rw [List.findSome?_eq_none_iff]
  intro b _
  cases hpin : s.pinnedBy b with
  | none => rfl
  | some e => simp [h b e hpin]

theorem State.refresh_eq (b : BayId) : s.refresh b = { s with hist := (s.refresh b).hist } := by
  unfold State.refresh
  split <;> rfl

/-- A refreshed pinned entry keeps its slot. -/
theorem State.beginSave_of_classTwo {b : BayId} {e : Entry} {i : Identity} (hk : s.hist.keySaves = [])
    (h2 : s.classTwo = some (b, e)) (he : s.pinnedBy b = some e) (hi : (s.bay b).identity = some i) :
    s.beginSave = (s.refresh b).beginEntrySave
      ((Entry.withData (refreshData (s.bay b) i b (s.meterAccepted b)) e).touch s.hist.writeOrder) := by
  simp [State.beginSave, hk, h2, State.pinnedBy_refresh he hi]

theorem State.beginSave_of_classThree (hk : s.hist.keySaves = []) (h2 : s.classTwo = none) :
    s.beginSave = s.beginClassThree := by
  simp [State.beginSave, hk, h2]

theorem State.beginClassThree_entry {e : Entry} {d : Nat} (he : e ∈ s.hist.table) (hd : e.dirty = some d)
    (hu : ∀ x u, x ∈ s.hist.table → x ≠ e → x.dirty = some u → d < u) (hr : ∀ r ∈ s.hist.removals, d ≤ r.dirty) :
    s.beginClassThree = s.beginEntrySave e := by
  have hentry := earliestEntry_unique _ e d he hd hu
  unfold State.beginClassThree
  cases hrem : earliestRemoval s.hist.removals with
  | none => simp [hentry]
  | some r =>
    have := hr r (earliestRemoval_mem _ _ hrem).1
    simp [hentry, Nat.not_lt.mpr this]

/-- A strictly earliest removal is the one found. -/
theorem earliestRemoval_unique {l : List Removal} {r : Removal} (hr : r ∈ l) (hu : ∀ x ∈ l, x ≠ r → r.dirty < x.dirty) :
    earliestRemoval l = some r := by
  obtain ⟨x, hx⟩ := earliestRemoval_some l r hr
  obtain ⟨hmem, hle⟩ := earliestRemoval_mem l x hx
  by_cases e : x = r
  · rw [hx, e]
  · have := hu x hmem e
    have := hle r hr
    omega

theorem State.beginClassThree_removal {r : Removal} (hr : r ∈ s.hist.removals)
    (hu : ∀ x ∈ s.hist.removals, x ≠ r → r.dirty < x.dirty)
    (he : ∀ e u, e ∈ s.hist.table → e.dirty = some u → r.dirty < u) : s.beginClassThree = s.beginRemoval r := by
  have hrem := earliestRemoval_unique hr hu
  unfold State.beginClassThree
  cases hentry : earliestEntry s.hist.table with
  | none => simp [hrem]
  | some p =>
    obtain ⟨d, e⟩ := p
    obtain ⟨hmem, hd, -⟩ := earliestEntry_mem _ _ _ hentry
    simp [hrem, he e d hmem hd]

theorem State.beginClassThree_nothing (he : ∀ e ∈ s.hist.table, e.dirty = none) (hr : s.hist.removals = []) :
    s.beginClassThree = s := by
  simp [State.beginClassThree, earliestEntry_none _ he, hr, earliestRemoval]

/-- Settles O6: class 1, then class 2, then the earliest of class 3. -/
theorem storeArbiterBeginsTheFirstClass : Obligations.StoreArbiterBeginsTheFirstClass := by
  intro s hidle
  have hexec := exec_storeSaveBegin hidle
  refine ⟨fun k ks hk => ?_, fun b e i hk he hp hi hlow => ?_, fun hk hnone => ⟨?_, ?_, ?_⟩⟩
  · simp [hexec, State.beginSave, hk]
  · rw [hexec, State.beginSave_of_classTwo hk (State.classTwo_eq_some he hp hlow) he hi, State.refresh_eq]
    exact ⟨_, rfl, rfl, rfl, rfl, rfl, rfl, rfl⟩
  all_goals
    have hthree := State.beginSave_of_classThree hk (State.classTwo_eq_none hnone)
  · intro e d he hd hu hr
    rw [hexec, hthree, State.beginClassThree_entry he hd hu hr]
    exact ⟨_, rfl, rfl, rfl, rfl, rfl, rfl, rfl⟩
  · intro r hr hu he
    rw [hexec, hthree, State.beginClassThree_removal hr hu he]
    exact ⟨_, rfl, rfl, rfl, rfl, rfl, rfl, rfl, rfl⟩
  · intro he hr
    rw [hexec, hthree, State.beginClassThree_nothing he hr]

/-! ## The completion of a save (R143, R144, R48, R49, R56) -/

theorem exec_storeSaveComplete {sv : SaveInProgress} (h : s.hist.saving = some sv) :
    exec .storeSaveComplete s = .next (s.completeSave sv).conclude := by
  simp [exec, execStoreSaveComplete, h]

theorem State.flushDone_eq (serial : Word64) : s.flushDone serial = { s with link := (s.flushDone serial).link } := by
  unfold State.flushDone
  split <;> rfl

theorem State.flushDone_hist (serial : Word64) : (s.flushDone serial).hist = s.hist :=
  (congrArg State.hist (s.flushDone_eq serial) :)

/-- `t` is `s` but for the History Unit's sets and the Link Interface. -/
structure SetsOnly (s t : State) : Prop where
  eq : t = { s with hist := t.hist, link := t.link }
  table : t.hist.table = s.hist.table
  saving : t.hist.saving = s.hist.saving

/-- Marking a serial done touches the sets alone. -/
theorem SetsOnly.marked (s : State) (p f : Bool) (serial : Word64) :
    SetsOnly s (let s1 := if p then s.pfDone serial else s
      if f then s1.flushDone serial else s1) := by
  have hflush (u : State) : SetsOnly u (u.flushDone serial) := by
    have hhist := u.flushDone_hist serial
    refine ⟨?_, by rw [hhist], by rw [hhist]⟩
    conv_lhs => rw [u.flushDone_eq serial]
    rw [hhist]
  cases p <;> cases f
  · exact ⟨rfl, rfl, rfl⟩
  · exact hflush s
  · exact ⟨rfl, rfl, rfl⟩
  · obtain ⟨heq, htable, hsaving⟩ := hflush (s.pfDone serial)
    exact ⟨heq, htable, hsaving⟩

/-- The table after an entry save: the slot's entry is clean but for the writes since (R143). -/
theorem State.entrySaved_eq (sl : SlotId) (copy : EntryData) (p f : Bool) :
    SetsOnly { s with
      store := s.store.setSlot sl (.closed copy)
      hist := { s.hist with
        table := s.hist.table.map (fun x => if x.slot == sl && x.saving then x.saved else x) } }
      (s.entrySaved sl copy p f) := by
  unfold State.entrySaved
  dsimp only
  split
  · next hnone =>
    have hmiss : ∀ x ∈ s.hist.table, (if x.slot == sl && x.saving then x.saved else x) = x := by
      intro x hx
      have : ¬ (x.slot = sl ∧ x.saving = true) := by
        simpa using List.find?_eq_none.mp hnone x hx
      simp [this]
    exact ⟨rfl, ((List.map_congr_left hmiss).trans (List.map_id _)).symm, rfl⟩
  · exact SetsOnly.marked _ p f _

theorem State.retryStep4_of_none (h : ∀ b, (s.bay b).step ≠ some .reconcile) : s.retryStep4 = s := by
  unfold State.retryStep4
  induction allBays with
  | nil => rfl
  | cons b l ih =>
    have hb : s.retryBayStep4 b = s := by simp [State.retryBayStep4, h b]
    rw [List.foldl_cons, hb, ih]

/-- A removal save's completion before the waiting step 4s are tried: the slot is free, and a HISTORY FORGET of the slot
is answered (R144, R148). -/
def State.slotFreed (s : State) (sl : SlotId) : State :=
  let s1 := { s with store := s.store.setSlot sl .free }
  match s1.link.waiting with
  | some (.forget sl1 serial owed inDoubt) =>
    if sl1 = sl then s1.finishRequest .ok (beBytes 8 serial.toNat ++ beBytes 6 owed ++ beBytes 6 inDoubt) false else s1
  | _ => s1

theorem State.removalSaved_eq (sl : SlotId) : s.removalSaved sl = (s.slotFreed sl).retryStep4 := rfl

theorem State.slotFreed_eq (sl : SlotId) :
    s.slotFreed sl = { s with store := s.store.setSlot sl .free, link := (s.slotFreed sl).link } := by
  unfold State.slotFreed
  dsimp only
  split
  · split
    · unfold State.finishRequest
      split <;> rfl
    · rfl
  · rfl

theorem State.slotFreed_of_forget {sl : SlotId} {serial : Word64} {owed inDoubt : Nat}
    (h : s.link.waiting = some (.forget sl serial owed inDoubt)) :
    s.slotFreed sl = State.finishRequest { s with store := s.store.setSlot sl .free } .ok
      (beBytes 8 serial.toNat ++ beBytes 6 owed ++ beBytes 6 inDoubt) false := by
  unfold State.slotFreed
  simp [h]

/-- Settles O7: what marks the sets, answers the request and tries the waiting step 4s leaves the slots alone. -/
theorem entrySaveCompletes : Obligations.EntrySaveCompletes := by
  intro s sl p f
  refine ⟨fun copy hsv => ?_, fun hsv => ?_⟩
  · refine ⟨_, exec_storeSaveComplete hsv, ?_⟩
    simp only [State.completeSave]
    obtain ⟨heq, htable, hsaving⟩ :=
      State.entrySaved_eq (s := { s with hist := { s.hist with saving := none } }) sl copy p f
    simp only [State.conclude_hist_saving, State.conclude_store, State.conclude_hist_table, State.conclude_bays,
      State.conclude_chans, State.conclude_meters, State.conclude_challenge]
    exact ⟨hsaving, by rw [heq]; rfl, htable.trans (by simp [Entry.saved]), by rw [heq], by rw [heq], by rw [heq], by rw [heq]⟩
  · refine ⟨_, exec_storeSaveComplete hsv, ?_⟩
    simp only [State.completeSave, State.removalSaved_eq]
    have hfreed := State.slotFreed_eq (s := { s with hist := { s.hist with saving := none } }) sl
    have hforget : ∀ serial owed inDoubt, s.link.waiting = some (.forget sl serial owed inDoubt) → _ :=
      fun serial owed inDoubt h =>
        State.slotFreed_of_forget (s := { s with hist := { s.hist with saving := none } }) (serial := serial)
          (owed := owed) (inDoubt := inDoubt) h
    generalize State.slotFreed { s with hist := { s.hist with saving := none } } sl = v at hfreed hforget ⊢
    have hin : Within v v.retryStep4 := (Within.refl v).retryStep4
    refine ⟨?_, ?_, fun hstep => ?_⟩
    · have hsaving : v.hist.saving = none := by rw [hfreed]
      simpa [hsaving] using hin.job
    · simp only [State.conclude_store, hin.store]
      rw [hfreed]
      rfl
    · have hv : v.retryStep4 = v := State.retryStep4_of_none fun b => by rw [hfreed]; exact hstep b
      simp only [hv, State.conclude_hist_table, State.conclude_bays, State.conclude_chans]
      refine ⟨by rw [hfreed], by rw [hfreed], by rw [hfreed], fun serial owed inDoubt q rest hw hq => ?_⟩
      rw [hforget serial owed inDoubt hw]
      exact State.finishRequest_answered_conclude_of_link (by rfl) hq .ok _ false

/-- A key or lock save completes for the request that waits for it (R48, R49). -/
theorem State.keySaved_of_waiting {k : KeySave} {q : Request} {rest : List Request} (hk : k.writesKeys = true)
    (hw : s.link.waiting = some .keySave) (hq : s.link.intake = q :: rest) :
    s.keySaved k = State.finishRequest { s with store := s.store.applyKeySave k } .ok [] false ∧
      s.answered (s.keySaved k).conclude q rest .ok [] := by
  have heq : s.keySaved k = State.finishRequest { s with store := s.store.applyKeySave k } .ok [] false := by
    cases k with
    | reserve _ => cases hk
    | key _ _ => simp [State.keySaved, hw]
    | lock => simp [State.keySaved, hw]
  refine ⟨heq, ?_⟩
  rw [heq]
  exact State.finishRequest_answered_conclude_of_link (by rfl) hq .ok [] false

/-- Settles O8. -/
theorem keySaveTakesEffectAtItsCompletion : Obligations.KeySaveTakesEffectAtItsCompletion := by
  intro s p f
  refine ⟨fun slot k q rest hsv hw hq => ?_, fun q rest hsv hw hq => ?_, fun limit hsv hrun => ?_⟩
  · obtain ⟨heq, hans⟩ := State.keySaved_of_waiting (s := { s with hist := { s.hist with saving := none } })
      (k := .key slot k) rfl hw hq
    refine ⟨_, exec_storeSaveComplete hsv, ?_⟩
    simp only [State.completeSave]
    refine ⟨?_, ?_, hans.of_link rfl, ?_, ?_, ?_, ?_⟩ <;> simp [heq, Store.applyKeySave]
  · obtain ⟨heq, hans⟩ := State.keySaved_of_waiting (s := { s with hist := { s.hist with saving := none } })
      (k := .lock) rfl hw hq
    refine ⟨_, exec_storeSaveComplete hsv, ?_⟩
    simp only [State.completeSave]
    refine ⟨?_, ?_, hans.of_link rfl, ?_, ?_, ?_, ?_⟩ <;> simp [heq, Store.applyKeySave]
  · refine ⟨_, exec_storeSaveComplete hsv, ?_⟩
    simp [State.completeSave, State.keySaved, State.reserved, hrun, Store.applyKeySave]

/-! ## The end of start-up (R169, R170) -/

/-- A notice raised on a link with nothing to send is begun at once. -/
theorem State.conclude_raise_idle {n : Notice} (hpf : s.hist.pf = .normal) (hw : s.link.waiting = none)
    (htx : s.link.tx = none) (hr : s.link.replies = []) (hn : s.link.notices = []) (hb : s.link.backlog = []) :
    (s.raise n).conclude = { s with link := { s.link with
      noticeSeq := s.link.noticeSeq + 1
      tx := some ⟨hostFrameBytes n.kindCode s.link.noticeSeq ((s.raise n).noticePayload n), true, false⟩ } } := by
  have hraise : s.raise n = { s with link := { s.link with notices := [n] } } := by
    cases n <;> simp [State.raise, hn, Config.noticeCapacity, Notice.mergesInto]
  have hpfc : (s.raise n).pfCheck = s.raise n := State.pfCheck_of_settled (.inl (by simp [hpf]))
  have hflush : (s.raise n).flushCheck = s.raise n := (s.raise n).flushCheck_of_not_flush (by simp [hw])
  unfold State.conclude
  rw [hpfc, hflush, hraise]
  unfold State.transmit State.drain
  simp [htx, hr, hb, hn]

/-- The part as the first reservation ends start-up, before its notice (R55, R56, R169). -/
def State.started (s : State) (limit : Nat) : State :=
  { s with
    phase := .running, hist := { s.hist with saving := none }, store := { s.store with limit := limit }
    challenge := { s.challenge with blockEnd := limit, block := .reserved } }

theorem State.completeSave_started {limit : Nat} {p f : Bool} (hphase : s.phase = .reserving)
    (hlevel : s.hist.pfLevel = false) :
    s.completeSave ⟨.key (.reserve limit), p, f⟩ =
      (s.started limit).raise (.startup (s.started limit).startupFields) := by
  simp [State.completeSave, State.keySaved, State.reserved, State.endStartup, hphase, hlevel, Store.applyKeySave,
    State.started]

/-- Settles O9: the STARTUP notice is the one thing to send. -/
theorem reservationEndsStartUp : Obligations.ReservationEndsStartUp := by
  intro s limit p f hphase hsv hlevel hpf htx hr hn hb hseq hw
  refine ⟨_, exec_storeSaveComplete hsv, ?_⟩
  rw [State.completeSave_started hphase hlevel, State.conclude_raise_idle (s := s.started limit) hpf hw htx hr hn hb]
  refine ⟨rfl, rfl, rfl, rfl, rfl, rfl, by simp [State.attn], ?_⟩
  simp [State.started, hseq, Notice.kindCode, State.noticePayload, State.startupFields, Store.keyMask]

end Sys2Proof.Machine

/-! What a choice of the Channel Unit can do (R101 to R107), and the equality of two states field by field. -/

namespace Sys2Proof.Machine

variable {s t u : State}

/-- Two states with the same fields are one. -/
theorem State.eq_of_fields (now : t.now = s.now) (pending : t.pending = s.pending) (freeCount : t.freeCount = s.freeCount)
    (pins : t.pins = s.pins) (phase : t.phase = s.phase) (cause : t.cause = s.cause) (ageLimit : t.ageLimit = s.ageLimit)
    (doubt : t.doubtThreshold = s.doubtThreshold) (refill : t.refillThreshold = s.refillThreshold)
    (bays : t.bays = s.bays) (chans : t.chans = s.chans) (meters : t.meters = s.meters)
    (meterQueue : t.meterQueue = s.meterQueue) (meterHand : t.meterHand = s.meterHand) (segL : t.segL = s.segL)
    (segR : t.segR = s.segR) (challenge : t.challenge = s.challenge) (store : t.store = s.store)
    (hist : t.hist = s.hist) (link : t.link = s.link) : t = s := by
  cases s; cases t
  congr

/-! ## Where a bay stands (R2) -/

@[simp] theorem bayChan_sideBay (c : ChanId) (sd : Side) : bayChan (sideBay c sd) = c := by
  apply Fin.ext
  cases sd <;> simp only [bayChan, sideBay] <;> omega

@[simp] theorem baySide_sideBay (c : ChanId) (sd : Side) : baySide (sideBay c sd) = sd := by
  cases sd <;> simp [baySide, sideBay]

@[simp] theorem sideBay_bayChan (b : BayId) : sideBay (bayChan b) (baySide b) = b := by
  apply Fin.ext
  unfold baySide
  split <;> simp only [bayChan, sideBay] <;> omega

theorem sideBay_otherSide_ne (c : ChanId) (sd : Side) : sideBay c (otherSide sd) ≠ sideBay c sd := by
  intro h
  have hsides := congrArg baySide h
  cases sd <;> simp [otherSide] at hsides

/-! ## The notices of an operation -/

theorem NoteOnly.of_eq {a b : LinkUnit} (h : b = a) : NoteOnly a b := h ▸ NoteOnly.refl b

theorem NoteOnly.raise {a : LinkUnit} (h : NoteOnly a s.link) (n : Notice) : NoteOnly a (s.raise n).link :=
  h.trans (State.noteOnly_raise n)

/-- A change of a bay's record that leaves it as it is leaves the state. -/
theorem State.modBay_of_eq {b : BayId} {f : Bay → Bay} (h : f (s.bay b) = s.bay b) : s.modBay b f = s := by
  unfold State.modBay State.setBay
  rw [h]
  simp [State.bay]

/-! ## Inside a channel -/

/-- What the Channel Unit changes at a choice for a channel (R101 to R107): the channel's record, its bays between
READY and ACTIVE with their write-back timers, and notices. -/
structure Chosen (c : ChanId) (s t : State) : Prop where
  eq : t = { s with bays := t.bays, chans := t.chans, link := t.link }
  notes : NoteOnly s.link t.link
  told : ∀ k, Told s.link k → Told t.link k
  elsewhere : s.baysElsewhere t c
  chans : s.otherChans t c
  bay : ∀ x, t.bay x = { s.bay x with state := (t.bay x).state, writeBackAt := (t.bay x).writeBackAt }
  state : ∀ x, (t.bay x).state = (s.bay x).state ∨
    ((s.bay x).state = .ready ∨ (s.bay x).state = .active) ∧ ((t.bay x).state = .ready ∨ (t.bay x).state = .active)

variable {c : ChanId}

theorem Chosen.refl (c : ChanId) (s : State) : Chosen c s s :=
  ⟨rfl, NoteOnly.refl _, fun _ h => h, fun _ _ => rfl, fun _ _ => rfl, fun _ => rfl, fun _ => .inl rfl⟩

theorem Chosen.trans (h : Chosen c s t) (k : Chosen c t u) : Chosen c s u where
  eq := by rw [k.eq, h.eq]
  notes := h.notes.trans k.notes
  told n x := k.told n (h.told n x)
  elsewhere x hx := (k.elsewhere x hx).trans (h.elsewhere x hx)
  chans x hx := (k.chans x hx).trans (h.chans x hx)
  bay x := by rw [k.bay x, h.bay x]
  state x := by
    rcases h.state x with h1 | ⟨h1, h2⟩
    · simpa [h1] using k.state x
    · rcases k.state x with k1 | ⟨_, k2⟩
      · exact .inr ⟨h1, k1 ▸ h2⟩
      · exact .inr ⟨h1, k2⟩

theorem Chosen.raise (h : Chosen c s t) (n : Notice) : Chosen c s (t.raise n) :=
  h.trans ⟨by simpa using t.raise_eq n, State.noteOnly_raise n, fun _ => State.told_raise_other n,
    fun _ _ => by simp, fun _ _ => by simp, fun _ => by simp, fun _ => by simp⟩

theorem Chosen.setChan (h : Chosen c s t) (v : Channel) : Chosen c s (t.setChan c v) :=
  h.trans ⟨rfl, NoteOnly.refl _, fun _ h => h, fun _ _ => rfl, fun _ hx => t.chan_setChan_ne hx v, fun _ => rfl,
    fun _ => .inl rfl⟩

/-- The record of a bay of the channel moves between READY and ACTIVE, or its timer is set. -/
theorem Chosen.modBay (h : Chosen c s t) {b : BayId} (hb : bayChan b = c) (f : Bay → Bay)
    (hf : f (t.bay b) = { t.bay b with state := (f (t.bay b)).state, writeBackAt := (f (t.bay b)).writeBackAt })
    (hs : (f (t.bay b)).state = (t.bay b).state ∨
      ((t.bay b).state = .ready ∨ (t.bay b).state = .active) ∧
        ((f (t.bay b)).state = .ready ∨ (f (t.bay b)).state = .active)) :
    Chosen c s (t.modBay b f) := by
  refine h.trans ⟨rfl, NoteOnly.refl _, fun _ h => h, fun x hx => ?_, fun _ _ => rfl, fun x => ?_, fun x => ?_⟩
  · exact t.bay_modBay_ne (by rintro rfl; exact hx hb) f
  · by_cases hx : x = b
    · subst hx; simpa using hf
    · rw [t.bay_modBay_ne hx f]
  · by_cases hx : x = b
    · subst hx; simpa using hs
    · exact .inl (by rw [t.bay_modBay_ne hx f])

theorem Chosen.leaveActive (h : Chosen c s t) {b : BayId} (hb : bayChan b = c) : Chosen c s (t.leaveActive b) := by
  unfold State.leaveActive
  split
  · next hs => exact h.modBay hb _ rfl (.inr ⟨.inr hs, .inl rfl⟩)
  · exact h

theorem Chosen.readyToActive (h : Chosen c s t) {b : BayId} (hb : bayChan b = c) : Chosen c s (t.readyToActive b) := by
  unfold State.readyToActive
  split
  · next hs => exact h.modBay hb _ rfl (.inr ⟨.inl hs, .inr rfl⟩)
  · exact h

theorem Chosen.startWriteBack (h : Chosen c s t) {b : BayId} (hb : bayChan b = c) :
    Chosen c s (t.startWriteBack b) := by
  unfold State.startWriteBack
  split
  · exact h.modBay hb _ rfl (.inl rfl)
  · exact h

theorem Chosen.enterActive (h : Chosen c s t) {b : BayId} (hb : bayChan b = c) : Chosen c s (t.enterActive b) := by
  unfold State.enterActive
  split
  · exact h.readyToActive hb
  · exact (h.readyToActive hb).startWriteBack hb

theorem Chosen.leaveOld (h : Chosen c s t) (target : Side) : Chosen c s (t.leaveOld c target) := by
  unfold State.leaveOld
  split
  · exact h.leaveActive (bayChan_sideBay _ _)
  · exact h

theorem Chosen.noteBay (h : Chosen c s t) (b : BayId) (was : BayState) : Chosen c s (t.noteBay b was) := by
  unfold State.noteBay
  split
  · exact h
  · exact h.raise _

theorem Chosen.noteOld (h : Chosen c s t) (before : State) (target : Side) :
    Chosen c s (t.noteOld before c target) := by
  unfold State.noteOld
  split
  · exact h.noteBay _ _
  · exact h

theorem Chosen.changeover (h : Chosen c s t) (target : Side) : Chosen c s (t.changeover c target) :=
  (((((h.leaveOld target).enterActive (bayChan_sideBay _ _)).setChan _).raise _).noteOld _ _).noteBay _ _

theorem Chosen.enterStarved (h : Chosen c s t) : Chosen c s (t.enterStarved c) := (h.setChan _).raise _

/-- A choice leaves things, starves the channel, or begins a changeover to a bay with a rank (R103, R106, R107). -/
theorem State.choose_cases (s : State) (c : ChanId) :
    s.choose c = s ∨ s.choose c = s.enterStarved c ∨ ∃ sd, s.rank c sd ≠ .none ∧ s.choose c = s.changeover c sd := by
  have hrank {sd : Side} (h : 0 < (s.rank c sd).level) : s.rank c sd ≠ .none := by
    intro e; simp [e, Rank.level] at h
  unfold State.choose
  split
  · exact .inl rfl
  · split
    · next sd hpick =>
      refine .inr (.inr ⟨sd, hrank ?_, rfl⟩)
      revert hpick
      unfold State.starvedPick
      dsimp only
      split_ifs <;> intro hpick <;> cases hpick <;> omega
    · exact .inl rfl
  all_goals
    split
    · exact .inl rfl
    · dsimp only
      split
      · exact .inr (.inr ⟨_, hrank (by omega), rfl⟩)
      · split
        · exact .inr (.inl rfl)
        · exact .inl rfl

theorem Chosen.choose (h : Chosen c s t) : Chosen c s (t.choose c) := by
  rcases t.choose_cases c with e | e | ⟨sd, _, e⟩ <;> rw [e]
  · exact h
  · exact h.enterStarved
  · exact h.changeover sd

theorem Chosen.seg (h : Chosen c s t) (g : Segment) : t.seg g = s.seg g := by rw [h.eq]; cases g <;> rfl
theorem Chosen.busEntry (h : Chosen c s t) (b : BayId) (k : EntryClass) : t.busEntry b k = s.busEntry b k := by
  simp [State.busEntry, h.seg]
theorem Chosen.hist (h : Chosen c s t) : t.hist = s.hist := (congrArg State.hist h.eq :)
theorem Chosen.store (h : Chosen c s t) : t.store = s.store := (congrArg State.store h.eq :)

theorem Chosen.onlyNotices (h : Chosen c s t) : s.link.onlyNotices t.transmit.link := State.noteOnly_transmit h.notes

/-! ## The records after a changeover -/

theorem State.bay_noteBay (b : BayId) (was : BayState) (x : BayId) : (s.noteBay b was).bay x = s.bay x := by
  unfold State.noteBay
  split <;> simp

theorem State.bay_noteOld (c : ChanId) (target : Side) (x : BayId) : (s.noteOld u c target).bay x = s.bay x := by
  unfold State.noteOld
  split
  · exact State.bay_noteBay _ _ _
  · rfl

theorem State.chan_noteBay (b : BayId) (was : BayState) (x : ChanId) : (s.noteBay b was).chan x = s.chan x := by
  unfold State.noteBay
  split <;> simp

theorem State.chan_noteOld (c : ChanId) (target : Side) (x : ChanId) : (s.noteOld u c target).chan x = s.chan x := by
  unfold State.noteOld
  split
  · exact State.chan_noteBay _ _ _
  · rfl

/-- The bays after a changeover: the old active bay has left, and the target has entered (R102 steps 1 and 2). -/
theorem State.bay_changeover (c : ChanId) (target : Side) (x : BayId) :
    (s.changeover c target).bay x = ((s.leaveOld c target).enterActive (sideBay c target)).bay x := by
  simp [State.changeover, State.bay_noteBay, State.bay_noteOld]

theorem State.chan_changeover (c : ChanId) (target : Side) :
    (s.changeover c target).chan c = (s.chan c).change target (s.switchDue c) := by
  simp [State.changeover, State.chan_noteBay, State.chan_noteOld]

theorem State.bay_leaveActive_of_not_active {b x : BayId} (h : (s.bay x).state ≠ .active) :
    (s.leaveActive b).bay x = s.bay x := by
  unfold State.leaveActive
  split
  · next hb => exact s.bay_modBay_ne (by rintro rfl; exact h hb) _
  · rfl

theorem State.bay_leaveOld_of_not_active (c : ChanId) (target : Side) {x : BayId} (h : (s.bay x).state ≠ .active) :
    (s.leaveOld c target).bay x = s.bay x := by
  unfold State.leaveOld
  split
  · exact State.bay_leaveActive_of_not_active h
  · rfl

theorem State.bay_enterActive_ne {b x : BayId} (h : x ≠ b) : (s.enterActive b).bay x = s.bay x := by
  unfold State.enterActive State.readyToActive State.startWriteBack
  repeat' split
  all_goals simp [State.bay_modBay_ne _ h]

/-- Only a READY, ACTIVE or LOST bay has a rank (R100). -/
theorem rankOf_none {cfg : Option Settings} {v : Bay} (h1 : v.state ≠ .ready) (h2 : v.state ≠ .active)
    (h3 : v.state ≠ .lost) : rankOf cfg v = .none := by
  unfold rankOf
  split
  · split
    · rfl
    · cases hs : v.state <;> simp_all
  · rfl

theorem State.bay_enterActive_lost {b : BayId} (h : (s.bay b).state = .lost) (x : BayId) :
    (s.enterActive b).bay x = s.bay x := by
  simp [State.enterActive, State.readyToActive, h]

/-- A bay that is neither READY nor ACTIVE keeps its record at a choice: it has no rank, or it is LOST (R100, R102). -/
theorem State.bay_choose_out (c : ChanId) {x : BayId} (h1 : (s.bay x).state ≠ .ready) (h2 : (s.bay x).state ≠ .active) :
    (s.choose c).bay x = s.bay x := by
  rcases s.choose_cases c with e | e | ⟨sd, hsd, e⟩ <;> rw [e]
  · simp [State.enterStarved]
  · have hleft := State.bay_leaveOld_of_not_active (s := s) c sd h2
    rw [State.bay_changeover]
    by_cases hx : x = sideBay c sd
    · have hlost : (s.bay x).state = .lost := by
        by_contra h3
        rw [State.rank, ← hx, rankOf_none h1 h2 h3] at hsd
        exact hsd rfl
      rw [← hx, State.bay_enterActive_lost (by rw [hleft, hlost]), hleft]
    · rw [State.bay_enterActive_ne hx, hleft]

theorem State.bay_tellChannel_out {b x : BayId} (h1 : (s.bay x).state ≠ .ready) (h2 : (s.bay x).state ≠ .active) :
    (s.tellChannel b).bay x = s.bay x := State.bay_choose_out _ h1 h2

end Sys2Proof.Machine

/-! The inputs and timers of a bay and of a channel (R5 to R9, R19, R20, R82, R83, R104). -/

namespace Sys2Proof.Machine

variable {s t : State}

@[simp] theorem State.bay_setPresence (b : BayId) (x : Bool) (y : BayId) : (s.setPresence b x).bay y = s.bay y := rfl
@[simp] theorem State.bay_setProbe (b : BayId) (x : BitVec 16) (y : BayId) : (s.setProbe b x).bay y = s.bay y := rfl
@[simp] theorem State.bayConfig_modBay (b x : BayId) (f : Bay → Bay) : (s.modBay b f).bayConfig x = s.bayConfig x := rfl
@[simp] theorem State.bayConfig_advanceTo (n : Nat) (x : BayId) : (s.advanceTo n).bayConfig x = s.bayConfig x := rfl
@[simp] theorem State.bayConfig_setProbe (b : BayId) (y : BitVec 16) (x : BayId) :
    (s.setProbe b y).bayConfig x = s.bayConfig x := rfl
@[simp] theorem State.rawPresence_modBay (b x : BayId) (f : Bay → Bay) :
    (s.modBay b f).rawPresence x = s.rawPresence x := rfl
@[simp] theorem State.rawPresence_advanceTo (n : Nat) (x : BayId) : (s.advanceTo n).rawPresence x = s.rawPresence x := rfl
@[simp] theorem State.probeSignal_modBay (b x : BayId) (f : Bay → Bay) :
    (s.modBay b f).probeSignal x = s.probeSignal x := rfl
@[simp] theorem State.probeSignal_advanceTo (n : Nat) (x : BayId) : (s.advanceTo n).probeSignal x = s.probeSignal x := rfl

theorem State.up_iff : s.up = true ↔ s.phase ≠ .inReset := by simp [State.up]

/-! ## Inputs (R5, R173) -/

/-- Settles O12. -/
theorem inputChangesStartTheirTimers : Obligations.InputChangesStartTheirTimers := by
  refine ⟨fun s b x => ?_, fun s x => ?_⟩
  · by_cases h : s.up = true ∧ x ≠ s.rawPresence b
    · refine ⟨_, if_pos h, rfl, ?_, fun y hy => ?_, rfl⟩
      · rw [State.up_iff] at h
        simp [h, Bay.retime, Config.debounceUs]
        rfl
      · simp [State.bay_modBay_ne _ hy]
    · refine ⟨_, if_neg h, rfl, ?_, fun _ _ => rfl, rfl⟩
      rw [State.up_iff] at h
      simp [h]
  · by_cases h : s.up = true ∧ x ≠ s.pins.pfwarn
    · refine ⟨_, if_pos h, rfl, ?_, rfl⟩
      rw [State.up_iff] at h
      simp [h, HistoryUnit.retimePf, State.modHist, Config.pfDebounceUs]
    · refine ⟨_, if_neg h, rfl, ?_, rfl⟩
      rw [State.up_iff] at h
      simp [h]

/-! ## A debounced rise (R6, R19) -/

/-- The filter of a present bay runs when its channel is configured. -/
theorem State.restartFilter_of_present {b : BayId} (h : (s.bay b).debounced = true) :
    s.restartFilter b = s.modBay b (fun v => { v with
      probeAt := (s.bayConfig b).elim v.probeAt (fun k => some (s.now + k.probeMs * 1000)) }) := by
  unfold State.restartFilter
  cases s.bayConfig b with
  | none => exact (State.modBay_of_eq rfl).symm
  | some k => simp [h]

/-- Settles O13. -/
theorem presenceRiseBeginsSettling : Obligations.PresenceRiseBeginsSettling := by
  intro s b due hdue hraw hlow
  have hexec : exec (.presenceDebounceExpiry b) s =
      .next (((s.advanceTo due).modBay b (fun v => { v with debounceAt := none })).presenceRise b).transmit := by
    simp [exec, execPresenceDebounceExpiry, hdue, hraw, hlow]
  refine ⟨_, hexec, ?_⟩
  unfold State.presenceRise
  rw [State.restartFilter_of_present (by simp)]
  refine ⟨?_, fun x hx => ?_, State.told_transmit (State.told_raise (.bay b)) (by simp), ?_, ?_⟩
  · cases hk : s.bayConfig b <;> simp [Config.settleUs, hk]
  · simp [State.bay_modBay_ne _ hx]
  · exact State.noteOnly_transmit (.raise (.of_eq (by simp)) _)
  · apply State.eq_of_fields <;> simp

/-! ## The timers that begin a link-up (R7 to R9) -/

@[simp] theorem State.bay_askStepOne (b x : BayId) : (s.askStepOne b).bay x = s.bay x := by
  simp [State.askStepOne, State.askSetCode]
@[simp] theorem State.askStepOne_link (b : BayId) : (s.askStepOne b).link = s.link := by
  simp [State.askStepOne, State.askSetCode]

/-- The segment of a bay that enters step 1 (R9, R26). -/
theorem State.seg_askStepOne (b : BayId) :
    ((s.askStepOne b).seg (baySeg b)).setCode.isSome = true ∧
      ((s.askStepOne b).seg (baySeg b)).stepOne = (s.seg (baySeg b)).stepOne ++ [b] ∧
      ((s.askStepOne b).seg (baySeg b)).queue = (s.seg (baySeg b)).queue := by
  simp [State.askStepOne, State.askSetCode]

theorem State.askStepOne_eq (b : BayId) :
    s.askStepOne b = { s with segL := (s.askStepOne b).segL, segR := (s.askStepOne b).segR } := by
  apply State.eq_of_fields <;> simp [State.askStepOne, State.askSetCode]

theorem State.bay_startLinkUp (b : BayId) : (s.startLinkUp b).bay b = (s.bay b).startLink := by
  simp [State.startLinkUp]

theorem State.bay_startLinkUp_ne {b x : BayId} (h : x ≠ b) : (s.startLinkUp b).bay x = s.bay x := by
  simp [State.startLinkUp, State.bay_modBay_ne _ h]

@[simp] theorem State.startLinkUp_link (b : BayId) : (s.startLinkUp b).link = s.link := by simp [State.startLinkUp]

theorem State.seg_startLinkUp (b : BayId) :
    ((s.startLinkUp b).seg (baySeg b)).setCode.isSome = true ∧
      ((s.startLinkUp b).seg (baySeg b)).stepOne = (s.seg (baySeg b)).stepOne ++ [b] ∧
      ((s.startLinkUp b).seg (baySeg b)).queue = (s.seg (baySeg b)).queue := by
  simpa [State.startLinkUp] using State.seg_askStepOne (s := s.modBay b Bay.startLink) b

theorem State.startLinkUp_eq (b : BayId) :
    s.startLinkUp b = { s with
      bays := (s.startLinkUp b).bays, segL := (s.startLinkUp b).segL, segR := (s.startLinkUp b).segR } := by
  unfold State.startLinkUp
  rw [State.askStepOne_eq]
  rfl

theorem State.bay_startFirstLink (b : BayId) :
    (s.startFirstLink b).bay b = { (s.bay b).startLink with state := .linking } := by
  simp [State.startFirstLink, State.bay_startLinkUp, Bay.startLink]

theorem State.bay_startFirstLink_ne {b x : BayId} (h : x ≠ b) : (s.startFirstLink b).bay x = s.bay x := by
  simp [State.startFirstLink, State.bay_startLinkUp_ne h, State.bay_modBay_ne _ h]

theorem State.startFirstLink_link (b : BayId) :
    (s.startFirstLink b).link = ((s.modBay b (fun v => { v with state := .linking })).raise (.bay b)).link := by
  simp [State.startFirstLink]

theorem State.seg_startFirstLink (b : BayId) :
    ((s.startFirstLink b).seg (baySeg b)).setCode.isSome = true ∧
      ((s.startFirstLink b).seg (baySeg b)).stepOne = (s.seg (baySeg b)).stepOne ++ [b] ∧
      ((s.startFirstLink b).seg (baySeg b)).queue = (s.seg (baySeg b)).queue := by
  simpa [State.startFirstLink] using
    State.seg_startLinkUp (s := (s.modBay b (fun v => { v with state := .linking })).raise (.bay b)) b

theorem State.startFirstLink_eq (b : BayId) :
    s.startFirstLink b = { s with
      bays := (s.startFirstLink b).bays, segL := (s.startFirstLink b).segL, segR := (s.startFirstLink b).segR
      link := (s.startFirstLink b).link } := by
  unfold State.startFirstLink
  rw [State.startLinkUp_eq, State.raise_eq]
  rfl

theorem State.told_startFirstLink (b : BayId) : Told (s.startFirstLink b).link (.bay b) := by
  rw [State.startFirstLink_link]
  exact State.told_raise (.bay b)

theorem State.noteOnly_startFirstLink (b : BayId) : NoteOnly s.link (s.startFirstLink b).link := by
  rw [State.startFirstLink_link]
  exact .raise (.of_eq (by simp)) _

/-- Settles O15: each timer, then the start of the link-up it begins. -/
theorem timersBeginLinkUps : Obligations.TimersBeginLinkUps := by
  refine ⟨fun s b due hdue => ?_, fun s b due hdue hstep => ?_, fun s b due hdue hstep => ?_⟩
  · cases hk : s.bayConfig b with
    | some k =>
      refine ⟨(State.startFirstLink ((s.advanceTo due).modBay b (fun v => { v with settleAt := none })) b).transmit,
        by simp [exec, execSettleTimerExpiry, hdue, hk], fun _ => ?_, by simp, fun x hx => ?_,
        State.told_transmit (State.told_startFirstLink b) (State.noteOnly_startFirstLink b).tx, ?_, ?_⟩
      · simpa [State.bay_startFirstLink, Bay.startLink] using
          State.seg_startFirstLink (s := (s.advanceTo due).modBay b (fun v => { v with settleAt := none })) b
      · simp [State.bay_startFirstLink_ne hx, State.bay_modBay_ne _ hx]
      · exact State.noteOnly_transmit (State.noteOnly_startFirstLink (s := (s.advanceTo due).modBay b _) b)
      · rw [State.transmit_onlyLink, State.startFirstLink_eq]
        rfl
    | none =>
      refine ⟨((((s.advanceTo due).modBay b (fun v => { v with settleAt := none })).modBay b
          (fun v => { v with state := .present })).raise (.bay b)).transmit,
        by simp [exec, execSettleTimerExpiry, hdue, hk], by simp, fun _ => by simp, fun x hx => ?_,
        State.told_transmit (State.told_raise (.bay b)) (by simp),
        State.noteOnly_transmit (.raise (.of_eq (by simp)) _), ?_⟩
      · simp [State.bay_modBay_ne _ hx]
      · apply State.eq_of_fields <;> simp
  · cases hi : (s.bay b).identity with
    | some i =>
      refine ⟨(State.startLinkUp ((s.advanceTo due).modBay b (fun v => { v with relinkAt := none })) b).transmit,
        by simp [exec, execRelinkTimerExpiry, hdue, hstep, hi], ?_⟩
      refine and_assoc.mp (and_assoc.mp (and_assoc.mp ⟨?_, fun x hx => ?_, by simp, ?_, ?_⟩))
      · simpa [State.bay_startLinkUp, Bay.startLink, hi, and_assoc] using
          State.seg_startLinkUp (s := (s.advanceTo due).modBay b (fun v => { v with relinkAt := none })) b
      · simp [State.bay_startLinkUp_ne hx, State.bay_modBay_ne _ hx]
      · exact State.noteOnly_transmit (by simpa using NoteOnly.refl _)
      · rw [State.transmit_onlyLink, State.startLinkUp_eq]
        rfl
    | none =>
      refine ⟨(State.startFirstLink ((s.advanceTo due).modBay b (fun v => { v with relinkAt := none })) b).transmit,
        by simp [exec, execRelinkTimerExpiry, hdue, hstep, hi], ?_⟩
      refine and_assoc.mp (and_assoc.mp (and_assoc.mp ⟨?_, fun x hx => ?_, fun _ =>
        State.told_transmit (State.told_startFirstLink b) (State.noteOnly_startFirstLink b).tx, ?_, ?_⟩))
      · simpa [State.bay_startFirstLink, Bay.startLink, hi, and_assoc] using
          State.seg_startFirstLink (s := (s.advanceTo due).modBay b (fun v => { v with relinkAt := none })) b
      · simp [State.bay_startFirstLink_ne hx, State.bay_modBay_ne _ hx]
      · exact State.noteOnly_transmit (State.noteOnly_startFirstLink (s := (s.advanceTo due).modBay b _) b)
      · rw [State.transmit_onlyLink, State.startFirstLink_eq]
        rfl
  · refine ⟨(s.advanceTo due).modBay b (fun v => { v with relinkAt := none }), ?_, by simp, fun x hx => ?_, rfl⟩
    · simp [exec, execRelinkTimerExpiry, hdue, Option.isSome_iff_ne_none, hstep]
    · simp [State.bay_modBay_ne _ hx]

end Sys2Proof.Machine

/-! The outlet probe, the write-back timer and the valve switch timer (R19, R20, R82, R83, R102 to R106). -/

namespace Sys2Proof.Machine

variable {s t : State}

/-! ## The outlet probe (R19, R20) -/

theorem readsInk_iff (x : BitVec 16) (r : Nat) : readsInk x r = true ↔ r * 2048 < x.toNat := by simp [readsInk]

/-- The filter timer after a changed signal (R19). -/
theorem State.bay_probeMoved {b : BayId} {k : Settings} (h : s.bayConfig b = some k) (old new : BitVec 16) :
    (s.probeMoved b old new).bay b = { s.bay b with
      probeAt :=
        if (s.bay b).debounced = true ∧ ¬ (k.probeRef * 2048 < old.toNat ↔ k.probeRef * 2048 < new.toNat) then
          (if (s.bay b).probe = (if k.probeRef * 2048 < new.toNat then .inkPresent else .inkAbsent) then none
           else some (s.now + k.probeMs * 1000))
        else (s.bay b).probeAt } := by
  have hne : readsInk old k.probeRef ≠ readsInk new k.probeRef ↔
      ¬ (k.probeRef * 2048 < old.toNat ↔ k.probeRef * 2048 < new.toNat) := by
    rw [← readsInk_iff, ← readsInk_iff, Ne, Bool.eq_iff_iff]
  simp only [State.probeMoved, h, hne]
  split
  · simp [Bay.refilter, readingState, readsInk_iff]
  · rfl

/-- Settles O16. -/
theorem probeReadingRestartsTheFilter : Obligations.ProbeReadingRestartsTheFilter := by
  intro s b x
  refine ⟨_, rfl, ?_, fun k hk => State.bay_probeMoved (s := s.setProbe b x) hk _ _, fun hk => ?_, fun y hy => ?_, ?_⟩
  · unfold State.probeMoved
    repeat' split
    all_goals rfl
  · simp [State.probeMoved, hk]
  · unfold State.probeMoved
    repeat' split
    all_goals simp [State.bay_modBay_ne _ hy]
  · unfold State.probeMoved
    repeat' split
    all_goals rfl

/-- The filter expires on a changed reading (R19). -/
theorem exec_probeFilterExpiry {b : BayId} {due : Nat} {k : Settings} (hdue : (s.bay b).probeAt = some due)
    (hk : s.bayConfig b = some k) (hne : (s.bay b).probe ≠ s.rawProbe b k) :
    exec (.probeFilterExpiry b) s =
      .next (((s.advanceTo due).modBay b (fun v => { v with probeAt := none })).probeChanged b (s.rawProbe b k)).transmit := by
  have hraw : ((s.advanceTo due).modBay b (fun v => { v with probeAt := none })).rawProbe b k = s.rawProbe b k := rfl
  simp [exec, execProbeFilterExpiry, hdue, hk, hraw, hne]

theorem State.rawProbe_absent {b : BayId} {k : Settings} (h : (s.probeSignal b).toNat ≤ k.probeRef * 2048) :
    s.rawProbe b k = .inkAbsent := by
  simp [State.rawProbe, readingState, readsInk, h]

theorem State.rawProbe_present {b : BayId} {k : Settings} (h : k.probeRef * 2048 < (s.probeSignal b).toNat) :
    s.rawProbe b k = .inkPresent := by
  simp [State.rawProbe, readingState, readsInk, h]

theorem State.bay_spendBay (b : BayId) : (s.spendBay b).bay b =
    { s.bay b with state := .spent, refusal := none, relinkAt := none, probeEmptySeen := true } := by
  unfold State.spendBay
  dsimp only
  split <;> simp

theorem State.bay_spendBay_ne {b x : BayId} (h : x ≠ b) : (s.spendBay b).bay x = s.bay x := by
  unfold State.spendBay
  dsimp only
  split <;> simp [State.bay_modBay_ne _ h]

theorem State.spendBay_eq (b : BayId) :
    s.spendBay b = { s with bays := (s.spendBay b).bays, link := (s.spendBay b).link } := by
  unfold State.spendBay
  dsimp only
  split
  · exact (State.raise_eq _).trans (by simp)
  · rfl

theorem State.noteOnly_spendBay (b : BayId) : NoteOnly s.link (s.spendBay b).link := by
  unfold State.spendBay
  dsimp only
  split
  · exact .raise (.of_eq (by simp)) _
  · exact .refl _

theorem State.told_spendBay {b : BayId} (h : (s.bay b).short = true) : Told (s.spendBay b).link (.level b) := by
  simp only [State.spendBay, h, if_true]
  exact State.told_raise _

theorem Bay.filtered_inkAbsent (v : Bay) : v.filtered .inkAbsent = { v with probe := .inkAbsent } := by
  cases v
  simp [Bay.filtered]

/-- Ink absent on a bay: what is told, and what stays (R20). -/
theorem State.inkAbsent_spec (b : BayId) :
    (s.inkAbsent b).bay b = { s.bay b with state := .spent, refusal := none, relinkAt := none, probeEmptySeen := true } ∧
      Told (s.inkAbsent b).link (.bay b) ∧
      ((s.bay b).short = true → Told (s.inkAbsent b).link (.level b)) ∧
      s.baysElsewhere (s.inkAbsent b) (bayChan b) ∧ s.otherChans (s.inkAbsent b) (bayChan b) ∧
      NoteOnly s.link (s.inkAbsent b).link ∧
      s.inkAbsent b = { s with
        bays := (s.inkAbsent b).bays, chans := (s.inkAbsent b).chans, link := (s.inkAbsent b).link } := by
  have hbay : ((s.spendBay b).tellChannel b).bay b = (s.spendBay b).bay b := by
    apply State.bay_tellChannel_out <;> simp [State.bay_spendBay]
  have hc : Chosen (bayChan b) (s.spendBay b) (s.inkAbsent b) := ((Chosen.refl _ _).choose).raise _
  refine ⟨by simp [State.inkAbsent, hbay, State.bay_spendBay], State.told_raise _,
    fun h => hc.told _ (State.told_spendBay h), fun x hx => ?_, fun x hx => ?_,
    s.noteOnly_spendBay b |>.trans hc.notes, ?_⟩
  · rw [hc.elsewhere x hx, State.bay_spendBay_ne]
    rintro rfl
    exact hx rfl
  · rw [hc.chans x hx, State.spendBay_eq]
    rfl
  · conv_lhs => rw [hc.eq, State.spendBay_eq]

/-- Settles O17. -/
theorem inkAbsentSpendsTheBay : Obligations.InkAbsentSpendsTheBay := by
  intro s b due k hdue hk hlow hne
  have hraw := State.rawProbe_absent hlow
  have hexec := exec_probeFilterExpiry hdue hk (hraw ▸ hne)
  rw [hraw] at hexec
  refine ⟨fun hstep hst => ?_, fun hst => ?_⟩
  · have hacts : ((((s.advanceTo due).modBay b (fun v => { v with probeAt := none })).bay b).actsOnAbsent) = true := by
      rcases hst with h | h | ⟨h, hi⟩ <;> simp [Bay.actsOnAbsent, *]
    simp only [State.probeChanged, hacts, if_true] at hexec
    refine ⟨_, hexec, ?_⟩
    obtain ⟨hbay, htold, hshort, helse, hchans, hnotes, heq⟩ := State.inkAbsent_spec (b := b)
      (s := ((s.advanceTo due).modBay b (fun v => { v with probeAt := none })).modBay b (fun v => v.filtered .inkAbsent))
    refine ⟨?_, State.told_transmit htold hnotes.tx, fun h => ?_, fun x hx => ?_, fun x hx => ?_,
      State.noteOnly_transmit hnotes, ?_⟩
    · rw [State.bay_transmit, hbay]
      simp [Bay.filtered_inkAbsent]
    · exact State.told_transmit (hshort (by simpa [Bay.filtered_inkAbsent, Bay.short, Bay.remaining, Bay.nominalMl, Bay.nominalNl, Bay.consumed] using h)) hnotes.tx
    · have hxb : x ≠ b := by rintro rfl; exact hx rfl
      simp [helse x hx, State.bay_modBay_ne _ hxb]
    · simp [hchans x hx]
    · rw [State.transmit_onlyLink, heq]
      rfl
  · have hacts : ((((s.advanceTo due).modBay b (fun v => { v with probeAt := none })).bay b).actsOnAbsent) = false := by
      rcases hst with h | h | h | h | h <;> simp [Bay.actsOnAbsent, h]
    simp only [State.probeChanged, hacts] at hexec
    refine ⟨_, hexec, ?_, fun x hx => ?_, ?_, ?_⟩
    · simp [Bay.filtered_inkAbsent]
    · simp [State.bay_modBay_ne _ hx]
    · exact State.noteOnly_transmit (.of_eq (by simp))
    · apply State.eq_of_fields <;> simp

/-! ## The write-back timer (R82, R83) -/

@[simp] theorem State.busEntry_modBay (x : BayId) (f : Bay → Bay) (b : BayId) (k : EntryClass) :
    (s.modBay x f).busEntry b k = s.busEntry b k := by simp [State.busEntry]
@[simp] theorem State.busEntry_advanceTo (n : Nat) (b : BayId) (k : EntryClass) :
    (s.advanceTo n).busEntry b k = s.busEntry b k := by simp [State.busEntry]

/-- The queue after an entry is queued (R34). -/
theorem State.seg_enqueue (b : BayId) (k : EntryClass) (op : BusOp) (step : Option LinkStep) :
    (s.enqueue b k op step).seg (baySeg b) = { s.seg (baySeg b) with
      queue := (s.seg (baySeg b)).queue ++ [newBusEntry b k op step s.now] } := by
  simp [State.enqueue]

theorem State.seg_enqueue_ne {b : BayId} {g : Segment} (h : g ≠ baySeg b) (k : EntryClass) (op : BusOp)
    (step : Option LinkStep) : (s.enqueue b k op step).seg g = s.seg g := by
  simp [State.enqueue, State.seg_modSeg_ne _ h]

@[simp] theorem State.bay_enqueue (b x : BayId) (k : EntryClass) (op : BusOp) (step : Option LinkStep) :
    (s.enqueue b k op step).bay x = s.bay x := by
  simp [State.enqueue]

theorem State.enqueue_eq (b : BayId) (k : EntryClass) (op : BusOp) (step : Option LinkStep) :
    s.enqueue b k op step = { s with
      segL := (s.enqueue b k op step).segL, segR := (s.enqueue b k op step).segR } := by
  apply State.eq_of_fields <;> simp [State.enqueue]

/-- A queued entry is its bay's when none was there. -/
theorem State.busEntry_enqueue {b : BayId} {k : EntryClass} (h : s.busEntry b k = none) (op : BusOp)
    (step : Option LinkStep) : (s.enqueue b k op step).busEntry b k = some (newBusEntry b k op step s.now) := by
  unfold State.busEntry at h ⊢
  rw [State.seg_enqueue, List.find?_append, h]
  simp [newBusEntry]

theorem State.startWriteBack_of {b : BayId} {k : Settings} (h : s.bayConfig b = some k) :
    s.startWriteBack b = s.modBay b (fun v => { v with writeBackAt := some (s.now + k.intervalS * 1000000) }) := by
  simp [State.startWriteBack, h]

theorem State.mayWriteBack_iff (b : BayId) : s.mayWriteBack b = true ↔
    (s.bay b).identity.isSome = true ∧ (s.bay b).step = none ∧ (s.bay b).state ≠ .lost ∧ (s.bay b).auth = .genuine ∧
      s.busEntry b .meter = none := by
  simp [State.mayWriteBack, and_assoc]

theorem State.writeBackDue_expired_iff {b : BayId} {k : Settings} (h : s.bayConfig b = some k) :
    s.writeBackDue b true = true ↔ k.quantumMl * 1000000 ≤ (s.bay b).owing ∨ 0 < (s.bay b).owing := by
  simp only [State.writeBackDue, h, Config.nlPerMl, Bool.true_and, Bool.or_eq_true]
  exact or_congr decide_eq_true_iff decide_eq_true_iff

/-- The state after the expiry of the write-back timer, which has stopped (R82). -/
def State.writeBackExpired (s : State) (b : BayId) : State :=
  let s1 := s.writeBackTrigger b true
  if (s1.busEntry b .meter).isSome then s1 else s1.startWriteBack b

theorem exec_writeBackTimerExpiry {b : BayId} {due : Nat} (hdue : (s.bay b).writeBackAt = some due) :
    exec (.writeBackTimerExpiry b) s =
      .next (((s.advanceTo due).modBay b (fun v => { v with writeBackAt := none })).writeBackExpired b) := by
  simp only [exec, execWriteBackTimerExpiry, hdue, State.writeBackExpired]
  split <;> rfl

/-- With a METER entry there the timer stays stopped (R82, R83). -/
theorem State.writeBackExpired_entry {b : BayId} (h : (s.busEntry b .meter).isSome = true) :
    s.writeBackExpired b = s := by
  have hmay : s.mayWriteBack b = false := by
    simp [State.mayWriteBack, Option.isNone_eq_false_iff.mpr h]
  simp [State.writeBackExpired, State.writeBackTrigger, hmay, h]

/-- With none there the ADVANCE is queued where the trigger fires (R83). -/
theorem State.writeBackExpired_fires {b : BayId} (hmay : s.mayWriteBack b = true) (hdue : s.writeBackDue b true = true) :
    s.writeBackExpired b = s.enqueue b .meter .advance none := by
  obtain ⟨_, _, _, _, hnone⟩ := (State.mayWriteBack_iff b).mp hmay
  simp [State.writeBackExpired, State.writeBackTrigger, hmay, hdue, State.busEntry_enqueue hnone]

/-- And the timer starts again where it does not (R82). -/
theorem State.writeBackExpired_waits {b : BayId} (hnone : s.busEntry b .meter = none)
    (h : ¬ (s.mayWriteBack b = true ∧ s.writeBackDue b true = true)) : s.writeBackExpired b = s.startWriteBack b := by
  have hno : (s.mayWriteBack b && s.writeBackDue b true) = false := by simpa using h
  simp [State.writeBackExpired, State.writeBackTrigger, hno, hnone]

/-- Settles O19: a METER entry is there, the trigger fires, or the timer starts again. -/
theorem writeBackTimerQueuesTheAdvance : Obligations.WriteBackTimerQueuesTheAdvance := by
  intro s b due k hdue hk
  refine ⟨_, exec_writeBackTimerExpiry hdue, ?_⟩
  have hmay := State.mayWriteBack_iff (s := (s.advanceTo due).modBay b (fun v => { v with writeBackAt := none })) b
  have hfires := State.writeBackDue_expired_iff (b := b) (k := k)
    (s := (s.advanceTo due).modBay b (fun v => { v with writeBackAt := none })) hk
  simp only [State.bay_modBay, State.bay_advanceTo, State.busEntry_modBay, State.busEntry_advanceTo] at hmay hfires
  cases hm : s.busEntry b .meter with
  | some m =>
    rw [State.writeBackExpired_entry (by simp [hm])]
    exact ⟨fun x hx => by simp [State.bay_modBay_ne _ hx], rfl, fun g _ => by simp, fun h => by simp at h, fun _ => by simp,
      fun _ h => by simp at h⟩
  | none =>
    by_cases h : (s.bay b).identity.isSome = true ∧ (s.bay b).step = none ∧ (s.bay b).state ≠ .lost ∧
      (s.bay b).auth = .genuine ∧ (k.quantumMl * 1000000 ≤ (s.bay b).owing ∨ 0 < (s.bay b).owing)
    · obtain ⟨h1, h2, h3, h4, h5⟩ := h
      rw [State.writeBackExpired_fires (hmay.mpr ⟨h1, h2, h3, h4, hm⟩) (hfires.mpr h5)]
      refine ⟨fun x hx => by simp [State.bay_modBay_ne _ hx], by rw [State.enqueue_eq]; rfl,
        fun g hg => by simp [State.seg_enqueue_ne hg], fun _ => ?_, fun h => by simp at h, fun hno _ hq => ?_⟩
      · simp [State.seg_enqueue]
      · exact absurd ⟨h1, h2, h3, h4, rfl, by omega⟩ hno
    · have hno : ¬ (_ ∧ _) := fun hboth => h (by
        obtain ⟨h1, h2, h3, h4, _⟩ := hmay.mp hboth.1
        exact ⟨h1, h2, h3, h4, hfires.mp hboth.2⟩)
      have hstart := State.startWriteBack_of (b := b) (k := k)
        (s := (s.advanceTo due).modBay b (fun v => { v with writeBackAt := none })) hk
      rw [State.writeBackExpired_waits (by simpa using hm) hno, hstart]
      refine ⟨fun x hx => by simp [State.bay_modBay_ne _ hx], rfl, fun g _ => by simp, fun hq => ?_,
        fun h => by simp at h, fun _ _ _ => by simp⟩
      obtain ⟨h1, h2, h3, h4, _, h5⟩ := hq
      exact absurd ⟨h1, h2, h3, h4, .inr h5⟩ h

/-! ## The valve switch timer (R102 to R106) -/

@[simp] theorem Rank.level_eq_zero (r : Rank) : r.level = 0 ↔ r = .none := by cases r <;> simp [Rank.level]

@[simp] theorem State.rank_advanceTo (n : Nat) (c : ChanId) (sd : Side) : (s.advanceTo n).rank c sd = s.rank c sd := rfl
@[simp] theorem State.rank_raise (n : Notice) (c : ChanId) (sd : Side) : (s.raise n).rank c sd = s.rank c sd := by
  simp [State.rank]

/-- A record change that keeps the settings keeps the ranks. -/
theorem State.rank_modChan (c d : ChanId) (sd : Side) {f : Channel → Channel} (h : (f (s.chan c)).config = (s.chan c).config) :
    (s.modChan c f).rank d sd = s.rank d sd := by
  unfold State.rank
  by_cases hd : d = c
  · subst hd; simp [h]
  · rw [s.chan_modChan_ne hd, s.bay_modChan]

/-- The choice of a SERVING channel (R103). -/
theorem State.choose_serving {c : ChanId} {sd : Side} (hst : (s.chan c).state = .serving)
    (hact : (s.chan c).active = some sd) :
    s.choose c = if (s.rank c sd).level < (s.rank c (otherSide sd)).level then s.changeover c (otherSide sd)
      else if s.rank c sd = .none then s.enterStarved c else s := by
  simp [State.choose, hst, hact]

theorem State.bay_enterActive_ready {b : BayId} (h : (s.bay b).state = .ready) :
    ((s.enterActive b).bay b).state = .active := by
  unfold State.enterActive State.startWriteBack State.readyToActive
  simp only [h, if_true]
  repeat' split
  all_goals simp_all

/-- The active bay that a changeover leaves is ACTIVE no longer, and a READY target is (R102 steps 1 and 2). -/
theorem State.bay_changeover_sides {c : ChanId} {sd : Side} (hact : (s.chan c).active = some sd) :
    ((s.changeover c (otherSide sd)).bay (sideBay c sd)).state ≠ .active ∧
      ((s.bay (sideBay c (otherSide sd))).state = .ready →
        ((s.changeover c (otherSide sd)).bay (sideBay c (otherSide sd))).state = .active) := by
  have hne := sideBay_otherSide_ne c sd
  have hleaves : (s.chan c).leaves (otherSide sd) = some sd := by
    cases sd <;> simp [Channel.leaves, hact, otherSide]
  have hleft : s.leaveOld c (otherSide sd) = s.leaveActive (sideBay c sd) := by simp [State.leaveOld, hleaves]
  rw [State.bay_changeover, State.bay_changeover, hleft]
  refine ⟨?_, fun hready => ?_⟩
  · rw [State.bay_enterActive_ne hne.symm]
    unfold State.leaveActive
    split
    · simp
    · assumption
  · have htarget : ((s.leaveActive (sideBay c sd)).bay (sideBay c (otherSide sd))).state = .ready := by
      rw [State.bay_leaveActive_of_not_active (by simp [hready]), hready]
    exact State.bay_enterActive_ready htarget

theorem exec_valveSwitchTimerExpiry {c : ChanId} {due : Nat} (hdue : (s.chan c).switchAt = some due)
    (hst : (s.chan c).state = .changing) :
    exec (.valveSwitchTimerExpiry c) s =
      .next ((((s.advanceTo due).modChan c Channel.serve).raise (.channel c)).choose c).transmit := by
  simp [exec, execValveSwitchTimerExpiry, hdue, hst]

/-- Settles O20: the channel serves, then the three outcomes of R103. -/
theorem valveSwitchEndsTheChangeover : Obligations.ValveSwitchEndsTheChangeover := by
  intro s c due k sd hdue hst hk hact
  have hserve : Chosen c (s.advanceTo due) (((s.advanceTo due).modChan c Channel.serve).raise (.channel c)) :=
    ((Chosen.refl c _).setChan _).raise _
  have hchosen := hserve.choose
  have hrank (x : Side) : (((s.advanceTo due).modChan c Channel.serve).raise (.channel c)).rank c x = s.rank c x := by
    rw [State.rank_raise, State.rank_modChan _ _ _ rfl, State.rank_advanceTo]
  have hchan : (((s.advanceTo due).modChan c Channel.serve).raise (.channel c)).chan c = (s.chan c).serve := by simp
  have hbays (x : BayId) : (((s.advanceTo due).modChan c Channel.serve).raise (.channel c)).bay x = s.bay x := by simp
  have hchoice := State.choose_serving (c := c) (sd := sd)
    (s := ((s.advanceTo due).modChan c Channel.serve).raise (.channel c)) (by simp [Channel.serve])
    (by simpa [Channel.serve] using hact)
  have hsides := State.bay_changeover_sides (c := c) (sd := sd)
    (s := ((s.advanceTo due).modChan c Channel.serve).raise (.channel c)) (by simpa [Channel.serve] using hact)
  have htold : Told (((s.advanceTo due).modChan c Channel.serve).raise (.channel c)).link (.channel c) :=
    State.told_raise (.channel c)
  have hswitch : (((s.advanceTo due).modChan c Channel.serve).raise (.channel c)).switchDue c =
      max s.now due + k.switchTens * 10000 := by
    simp [State.switchDue, Channel.serve, hk]
  have hkept : (((s.advanceTo due).modChan c Channel.serve).raise (.channel c)).bays = s.bays := by simp
  rw [hrank, hrank] at hchoice
  refine ⟨_, exec_valveSwitchTimerExpiry hdue hst, ?_⟩
  generalize ((s.advanceTo due).modChan c Channel.serve).raise (.channel c) = u at *
  refine ⟨fun x hx => ?_, ?_, State.noteOnly_transmit hchosen.notes, ?_, fun hr hle => ?_, fun hlt => ?_, fun hr hp => ?_⟩
  · simpa using hchosen.chans x hx
  · exact State.told_transmit ((Chosen.refl c u).choose.told _ htold) hchosen.notes.tx
  · rw [State.transmit_onlyLink, hchosen.eq]
    rfl
  · have hsame : u.choose c = u := by rw [hchoice, if_neg (by omega), if_neg hr]
    simp only [hsame, State.chan_transmit, State.transmit_bays, hchan, hkept, State.holdLine]
    simp [Channel.serve, HoldCauses.any]
  · have hmove : u.choose c = u.changeover c (otherSide sd) := by rw [hchoice, if_pos hlt]
    have hleaves : (s.chan c).serve.leaves (otherSide sd) = some sd := by
      cases sd <;> simp [Channel.leaves, Channel.serve, hact, otherSide]
    simp only [hmove, State.chan_transmit, State.bay_transmit, State.holdLine, State.chan_changeover]
    refine ⟨?_, hsides.1, fun hready => hsides.2 (by rw [hbays, hready]), fun x hx => ?_, ?_⟩
    · rw [hchan, hswitch, Channel.change, hleaves]
      simp [Channel.serve]
    · rw [State.bay_transmit, ← hmove, (Chosen.refl c u).choose.elsewhere x hx, hbays]
    · simp [Channel.change, HoldCauses.any]
  · have hstarve : u.choose c = u.enterStarved c := by rw [hchoice, if_neg (by simp [hr, hp]), if_pos hr]
    simp only [hstarve, State.enterStarved, State.chan_transmit, State.chan_raise, State.chan_setChan,
      State.transmit_bays, State.raise_bays, State.setChan_bays, State.holdLine]
    exact ⟨by simp [Channel.starve, hchan, Channel.serve, hk], hkept, by simp [Channel.starve, HoldCauses.any]⟩

end Sys2Proof.Machine

/-! What the operations of one bay can touch: a path of steps, each on the bay's record, its channel's record, its own
entries in the queue, the History Unit, the requests or the notices. From it follow what they all leave alone: the bays
and channels elsewhere, the frame on the bus (R28), and every notice already raised. -/

namespace Sys2Proof.Machine

variable {s t u : State} {b : BayId}

/-- A path of operations of bay `b`. -/
inductive Acts (b : BayId) (s : State) : State → Prop
  | refl : Acts b s s
  | modBay {t : State} (h : Acts b s t) (f : Bay → Bay) : Acts b s (t.modBay b f)
  | choose {t : State} (h : Acts b s t) : Acts b s (t.choose (bayChan b))
  | enqueue {t : State} (h : Acts b s t) (k : EntryClass) (op : BusOp) (x : Option LinkStep) :
      Acts b s (t.enqueue b k op x)
  | dequeue {t : State} (h : Acts b s t) (k : EntryClass) : Acts b s (t.dequeue b k)
  | modEntry {t : State} (h : Acts b s t) (k : EntryClass) (f : BusEntry → BusEntry) : Acts b s (t.modEntry b k f)
  | raise {t : State} (h : Acts b s t) (n : Notice) : Acts b s (t.raise n)
  | hist {t : State} (h : Acts b s t) (x : HistoryUnit) : Acts b s { t with hist := x }
  | finishRequest {t : State} (h : Acts b s t) (r : Result) (fs : List Byte) (z : Bool) :
      Acts b s (t.finishRequest r fs z)
  | waiting {t : State} (h : Acts b s t) (w : Option Waiting) :
      Acts b s { t with link := { t.link with waiting := w } }

/-! ## What no operation of a bay touches -/

/-- The other bays' channels, the frame on each segment and the notices already raised are kept. -/
structure Around (b : BayId) (s t : State) : Prop where
  elsewhere : s.baysElsewhere t (bayChan b)
  chans : s.otherChans t (bayChan b)
  told : ∀ k, Told s.link k → Told t.link k
  tx : t.link.tx = s.link.tx
  line : ∀ g, (t.seg g).exchange = (s.seg g).exchange ∧ (t.seg g).frameSeq = (s.seg g).frameSeq ∧
    (t.seg g).code = (s.seg g).code
  segs : ∀ g, g ≠ baySeg b → t.seg g = s.seg g

theorem Around.refl (b : BayId) (s : State) : Around b s s :=
  ⟨fun _ _ => rfl, fun _ _ => rfl, fun _ h => h, rfl, fun _ => ⟨rfl, rfl, rfl⟩, fun _ _ => rfl⟩

theorem Around.trans (h : Around b s t) (k : Around b t u) : Around b s u where
  elsewhere x hx := (k.elsewhere x hx).trans (h.elsewhere x hx)
  chans x hx := (k.chans x hx).trans (h.chans x hx)
  told n x := k.told n (h.told n x)
  tx := k.tx.trans h.tx
  line g := by
    obtain ⟨h1, h2, h3⟩ := h.line g
    obtain ⟨k1, k2, k3⟩ := k.line g
    exact ⟨k1.trans h1, k2.trans h2, k3.trans h3⟩
  segs g hg := (k.segs g hg).trans (h.segs g hg)

/-- A change that leaves the bays, the channels, the segments and the notices. -/
theorem Around.of_eq (hb : t.bays = s.bays) (hc : t.chans = s.chans) (hl : t.segL = s.segL) (hr : t.segR = s.segR)
    (hn : t.link.notices = s.link.notices) (hk : t.link.backlog = s.link.backlog) (hx : t.link.tx = s.link.tx) :
    Around b s t := by
  have hseg (g : Segment) : t.seg g = s.seg g := by cases g <;> simp [State.seg, hl, hr]
  refine ⟨fun _ _ => ?_, fun _ _ => ?_, fun n h => ?_, hx, fun g => ?_, fun g _ => hseg g⟩
  · simp [State.bay, hb]
  · simp [State.chan, hc]
  · simpa [Told, LinkUnit.holdsNotice, hn, hk] using h
  · simp [hseg]

/-- A change of the bay's own segment that leaves the frame on it. -/
theorem Around.modSeg (f : SegCtl → SegCtl) (hx : ∀ v, (f v).exchange = v.exchange)
    (hf : ∀ v, (f v).frameSeq = v.frameSeq) (hc : ∀ v, (f v).code = v.code) : Around b s (s.modSeg (baySeg b) f) := by
  refine ⟨fun _ _ => by simp, fun _ _ => by simp, fun _ h => by simpa using h, by simp, fun g => ?_,
    fun g hg => s.seg_modSeg_ne hg f⟩
  by_cases hg : g = baySeg b
  · subst hg; simp [hx, hf, hc]
  · simp [s.seg_modSeg_ne hg f]

theorem Around.of_chosen (h : Chosen (bayChan b) s t) : Around b s t := by
  exact ⟨h.elsewhere, h.chans, h.told, h.notes.tx, fun g => by simp [h.seg], fun g _ => h.seg g⟩

theorem Acts.around (h : Acts b s t) : Around b s t := by
  induction h with
  | refl => exact .refl _ _
  | @modBay t _ f ih =>
    refine ih.trans ⟨fun x hx => t.bay_modBay_ne ?_ f, fun _ _ => rfl, fun _ h => h, rfl, fun _ => by simp,
      fun _ _ => by simp⟩
    rintro rfl
    exact hx rfl
  | choose _ ih => exact ih.trans (.of_chosen ((Chosen.refl _ _).choose))
  | enqueue _ k op x ih => exact ih.trans (.modSeg _ (fun _ => rfl) (fun _ => rfl) (fun _ => rfl))
  | dequeue _ k ih => exact ih.trans (.modSeg _ (fun _ => rfl) (fun _ => rfl) (fun _ => rfl))
  | modEntry _ k f ih => exact ih.trans (.modSeg _ (fun _ => rfl) (fun _ => rfl) (fun _ => rfl))
  | raise _ n ih => exact ih.trans (.of_chosen ((Chosen.refl _ _).raise n))
  | hist _ x ih => exact ih.trans (.of_eq rfl rfl rfl rfl rfl rfl rfl)
  | finishRequest _ r fs z ih => exact ih.trans (.of_eq (by simp) (by simp) (by simp) (by simp) (by simp) (by simp) (by simp))
  | waiting _ w ih => exact ih.trans (.of_eq rfl rfl rfl rfl rfl rfl rfl)

theorem Acts.trans (h : Acts b s t) (k : Acts b t u) : Acts b s u := by
  induction k with
  | refl => exact h
  | modBay _ f ih => exact ih.modBay f
  | choose _ ih => exact ih.choose
  | enqueue _ k op x ih => exact ih.enqueue k op x
  | dequeue _ k ih => exact ih.dequeue k
  | modEntry _ k f ih => exact ih.modEntry k f
  | raise _ n ih => exact ih.raise n
  | hist _ x ih => exact ih.hist x
  | finishRequest _ r fs z ih => exact ih.finishRequest r fs z
  | waiting _ w ih => exact ih.waiting w

/-! ## Records, notices and the seen table -/

theorem Acts.tellChannel (h : Acts b s t) : Acts b s (t.tellChannel b) := h.choose

theorem Acts.noteOutcome (h : Acts b s t) (o : BusOutcome) : Acts b s (t.noteOutcome b o) := h.modBay _

theorem Acts.raiseIf (h : Acts b s t) (l : Bool) (sc : Scope) : Acts b s (t.raiseIf l sc) := by
  unfold State.raiseIf
  split
  · exact h.raise _
  · exact h

theorem Acts.bumpNoReply (h : Acts b s t) : Acts b s (t.bumpNoReply b) := (h.modBay _).raiseIf _ _
theorem Acts.bumpMalformed (h : Acts b s t) : Acts b s (t.bumpMalformed b) := (h.modBay _).raiseIf _ _
theorem Acts.bumpChallengeFail (h : Acts b s t) : Acts b s (t.bumpChallengeFail b) := (h.modBay _).raiseIf _ _
theorem Acts.bumpWriteBacks (h : Acts b s t) : Acts b s (t.bumpWriteBacks b) := (h.modBay _).raiseIf _ _

theorem Acts.startWriteBack (h : Acts b s t) : Acts b s (t.startWriteBack b) := by
  unfold State.startWriteBack
  split
  · exact h.modBay _
  · exact h

theorem Acts.writeEntry (h : Acts b s t) (serial : Word64) (f : Entry → Entry) : Acts b s (t.writeEntry serial f) :=
  h.hist _
theorem Acts.writeQuietly (h : Acts b s t) (serial : Word64) (f : Entry → Entry) :
    Acts b s (t.writeQuietly serial f) := h.hist _

theorem Acts.refresh (h : Acts b s t) (x : BayId) : Acts b s (t.refresh x) := by
  unfold State.refresh
  split
  · exact h.writeEntry _ _
  · exact h

theorem Acts.pfJoin (h : Acts b s t) (e : Entry) : Acts b s (t.pfJoin e) := by
  unfold State.pfJoin
  split
  · exact h.hist _
  · exact h

theorem Acts.flushDone (h : Acts b s t) (serial : Word64) : Acts b s (t.flushDone serial) := by
  unfold State.flushDone
  split
  · exact h.waiting _
  · exact h

theorem Acts.dropEntry (h : Acts b s t) (serial : Word64) : Acts b s (t.dropEntry serial) :=
  Acts.flushDone (Acts.hist (Acts.hist h _) _) _

theorem Acts.loseInk (h : Acts b s t) (ev : HistoryEvent) (serial : Word64) (a c d : Nat) :
    Acts b s (t.loseInk ev serial a c d) := Acts.raise (Acts.hist (Acts.hist h _) _) _

theorem Acts.evict (h : Acts b s t) (e : Entry) : Acts b s (t.evict e) := by
  unfold State.evict
  dsimp only
  split
  · exact h.dropEntry _
  · exact (h.dropEntry _).loseInk _ _ _ _ _

theorem Acts.readyStamp (h : Acts b s t) : Acts b s t.readyStamp := by
  unfold State.readyStamp
  split
  · exact h
  · exact h.hist _

theorem Acts.createEntry (h : Acts b s t) {i : Identity} {x : BayId} {pin : Option BayId} {c o : Nat}
    (k : t.createEntry i x pin c o = some u) : Acts b s u := by
  unfold State.createEntry at k
  split at k
  · cases k
    exact h.readyStamp.hist _
  · split at k
    · cases k
      exact (h.evict _).readyStamp.hist _
    · cases k

theorem Acts.takeEntry (h : Acts b s t) (serial : Word64) (x : BayId) : Acts b s (t.takeEntry serial x) := by
  unfold State.takeEntry
  dsimp only
  split
  · exact h.readyStamp
  · exact h.readyStamp.hist _

theorem Acts.carryOrphan (h : Acts b s t) (x : BayId) (i : Identity) (n : Nat) : Acts b s (t.carryOrphan x i n) := by
  unfold State.carryOrphan
  split
  · exact h
  · split
    · split
      · exact h.loseInk _ _ _ _ _
      · exact h.writeEntry _ _
    · split
      · next hc => exact h.createEntry hc
      · exact h.loseInk _ _ _ _ _

theorem Acts.releaseCartridge (h : Acts b s t) (x : BayId) : Acts b s (t.releaseCartridge x) := by
  unfold State.releaseCartridge
  split
  · exact h
  · split
    · exact (h.refresh x).writeEntry _ _
    · exact h.carryOrphan _ _ _

/-! ## The bay's work on the bus -/

theorem Acts.serviceEnd (h : Acts b s t) (o : BusOutcome) (d : List Byte) : Acts b s (t.serviceEnd b o d) := by
  unfold State.serviceEnd
  split
  · repeat' split
    all_goals first | exact h | exact h.finishRequest _ _ _
  · repeat' split
    all_goals first | exact h | exact h.finishRequest _ _ _ | exact (h.waiting _).enqueue _ _ _
  · exact h

theorem Acts.clearLostMeter (h : Acts b s t) : Acts b s (t.clearLostMeter b) := by
  unfold State.clearLostMeter
  dsimp only
  repeat' split
  all_goals first | exact h | exact (h.dequeue _).noteOutcome _ | exact ((h.dequeue _).noteOutcome _).modBay _ | exact h.dequeue _

theorem Acts.clearLostService (h : Acts b s t) : Acts b s (t.clearLostService b) := by
  unfold State.clearLostService
  repeat' split
  all_goals first | exact h | exact ((h.dequeue _).noteOutcome _).serviceEnd _ _

theorem Acts.clearLostSetup (h : Acts b s t) : Acts b s (t.clearLostSetup b) := by
  unfold State.clearLostSetup
  dsimp only
  repeat' split
  all_goals first | exact h | exact ((h.dequeue _).noteOutcome _).modBay _ | exact (h.dequeue _).noteOutcome _

theorem Acts.clearLostWork (h : Acts b s t) : Acts b s (t.clearLostWork b) :=
  h.clearLostMeter.clearLostService.clearLostSetup.modBay _

theorem Acts.goLost (h : Acts b s t) : Acts b s (t.goLost b) := (((h.modBay _).clearLostWork).raise _).tellChannel

theorem Acts.linkFail (h : Acts b s t) : Acts b s (t.linkFail b) := by
  unfold State.linkFail
  dsimp only
  repeat' split
  · exact h.modBay _
  · exact (h.modBay _).modBay _
  · exact (h.modBay _).goLost

theorem Acts.handleNoReply (h : Acts b s t) : Acts b s (t.handleNoReply b) := by
  unfold State.handleNoReply
  split
  all_goals first | exact h.goLost | exact h.modBay _ | exact h

theorem Acts.writeBackTrigger (h : Acts b s t) (x : Bool) : Acts b s (t.writeBackTrigger b x) := by
  unfold State.writeBackTrigger
  split
  · exact h.enqueue _ _ _
  · exact h

theorem Acts.withdrawMeter (h : Acts b s t) : Acts b s (t.withdrawMeter b) := by
  unfold State.withdrawMeter
  dsimp only
  repeat' split
  all_goals first | exact h | exact h.dequeue _ | exact (h.dequeue _).startWriteBack

theorem Acts.withdrawMark (h : Acts b s t) : Acts b s (t.withdrawMark b) := by
  unfold State.withdrawMark
  repeat' split
  all_goals first | exact h | exact h.dequeue _

theorem Acts.setAuth (h : Acts b s t) (a : AuthState) : Acts b s (t.setAuth b a) := by
  unfold State.setAuth
  dsimp only
  split
  · exact ((h.modBay _).withdrawMeter.withdrawMark).modBay _
  · exact h.modBay _

theorem Acts.beginExchange (h : Acts b s t) (x : Exchange3) (y : Option LinkStep) :
    Acts b s (t.beginExchange b x y) := (h.modBay _).enqueue _ _ _

theorem Acts.requestRecheck (h : Acts b s t) : Acts b s (t.requestRecheck b) := by
  unfold State.requestRecheck State.askRecheck
  dsimp only
  repeat' split
  all_goals first | exact h | exact h.modBay _ | exact h.beginExchange _ _

theorem Acts.settleOwed (h : Acts b s t) : Acts b s (t.settleOwed b) := by
  unfold State.settleOwed
  dsimp only
  split
  · exact (h.modBay _).requestRecheck
  · exact h

theorem Acts.askMark (h : Acts b s t) : Acts b s (t.askMark b) := by
  unfold State.askMark
  split
  · exact h.enqueue _ _ _
  · exact h.modBay _

theorem Acts.releaseSetup (h : Acts b s t) : Acts b s (t.releaseSetup b) := by
  unfold State.releaseSetup
  dsimp only
  repeat' split
  all_goals
    first
    | exact h
    | exact h.enqueue _ _ _
    | exact (h.modBay _).beginExchange _ _
    | exact (h.modBay _).enqueue _ _ _
    | exact h.modBay _

/-! ## Policy tests, scoring and levels -/

/-- An operation on bay `b` is a path of its operations. -/
def Acting (b : BayId) (f : State → BayId → State) : Prop := ∀ {s t : State}, Acts b s t → Acts b s (f t b)

theorem Acting.tellChannel : Acting b State.tellChannel := fun h => h.tellChannel
theorem Acting.quiet : Acting b (fun t _ => t) := fun h => h

variable {tell pr pt : State → BayId → State}

theorem Acts.refuseBay (l : Acting b tell) (h : Acts b s t) (r : RefusalReason) : Acts b s (t.refuseBay tell b r) :=
  l ((h.modBay _).raise _)

theorem Acts.spendBay (h : Acts b s t) : Acts b s (t.spendBay b) := by
  unfold State.spendBay
  dsimp only
  split
  · exact (h.modBay _).raise _
  · exact h.modBay _

theorem Acts.returnToLost (h : Acts b s t) : Acts b s (t.returnToLost b) := (h.modBay _).clearLostWork.releaseSetup

theorem Acts.liftRefusal (l : Acting b tell) (k : Acting b pr) (h : Acts b s t) : Acts b s (t.liftRefusal tell pr b) := by
  unfold State.liftRefusal
  dsimp only
  refine l (Acts.raise ?_ _)
  repeat' split
  all_goals
    first
    | exact h.spendBay
    | exact k h.returnToLost
    | exact h.returnToLost
    | exact k (h.modBay _)
    | exact h.modBay _

theorem Acts.policyTestWith (l : Acting b tell) (k : Acting b pr) (h : Acts b s t) :
    Acts b s (t.policyTestWith tell pr b) := by
  unfold State.policyTestWith
  extract_lets v
  repeat' split
  all_goals
    first
    | exact h
    | exact h.refuseBay l _
    | exact l ((h.modBay _).raise _)
    | exact h.liftRefusal l k

theorem Acts.evaluateWith (l : Acting b tell) (k : Acting b pt) (h : Acts b s t) :
    Acts b s (t.evaluateWith tell pt b) := by
  unfold State.evaluateWith
  split
  · exact h
  · extract_lets new s1 s2 s3
    split
    · have w : Acts b s s3 := l (k (((h.writeEntry _ _).modBay _).refresh b))
      split
      · exact w.askMark
      · exact w
    · exact h

theorem Acts.scoreWith (l : Acting b tell) (k : Acting b pt) (h : Acts b s t) (kind : EvidenceKind) (p n : Nat) :
    Acts b s (t.scoreWith tell pt b kind p n) := by
  unfold State.scoreWith
  dsimp only
  split
  · exact h
  · exact (((h.writeEntry _ _).modBay _).evaluateWith l k).raise _

theorem Acting.probeReturnWith (l : Acting b tell) : Acting b (State.probeReturnWith tell) := fun h =>
  (h.modBay _).scoreWith l (fun w => w.policyTestWith l Acting.quiet) _ _ _

theorem Acts.probeReturn (h : Acts b s t) : Acts b s (t.probeReturn b) := Acting.probeReturnWith Acting.tellChannel h

theorem Acts.policyTest (h : Acts b s t) : Acts b s (t.policyTest b) :=
  h.policyTestWith Acting.tellChannel (Acting.probeReturnWith Acting.tellChannel)

theorem Acts.score (h : Acts b s t) (kind : EvidenceKind) (p n : Nat) : Acts b s (t.score b kind p n) :=
  h.scoreWith Acting.tellChannel (fun w => w.policyTest) kind p n

theorem Acts.evaluate (h : Acts b s t) : Acts b s (t.evaluate b) := h.evaluateWith Acting.tellChannel (fun w => w.policyTest)

theorem Acts.levelTests (h : Acts b s t) : Acts b s (t.levelTests b) := by
  unfold State.levelTests State.countedOutTest State.lowTest
  dsimp only
  repeat' split
  all_goals
    first
    | exact h
    | exact (h.modBay _).raise _
    | exact ((h.modBay _).raise _).writeQuietly _ _
    | exact ((((h.modBay _).raise _).modBay _).raise _).writeQuietly _ _
    | exact (((h.modBay _).raise _).modBay _).raise _

theorem Acts.overdrawExam (h : Acts b s t) : Acts b s (t.overdrawExam b) := by
  unfold State.overdrawExam
  dsimp only
  split
  · exact (h.modBay _).score _ _ _
  · exact h

theorem Acts.inkReturns (h : Acts b s t) : Acts b s (t.inkReturns b) := by
  unfold State.inkReturns
  dsimp only
  refine Acts.raise (Acts.tellChannel ?_) _
  repeat' split
  all_goals
    first
    | exact h.returnToLost.probeReturn
    | exact h.returnToLost
    | exact (h.modBay _).probeReturn
    | exact h.modBay _

/-! ## Link-up -/

theorem Acts.enterService (h : Acts b s t) (st : BayState) : Acts b s (t.enterService b st) := by
  unfold State.enterService
  dsimp only
  refine Acts.writeBackTrigger ?_ _
  have w := ((h.modBay (fun v => v.serve st)).startWriteBack).levelTests
  split
  · exact w.probeReturn
  · exact w

theorem Acts.completeLink (h : Acts b s t) : Acts b s (t.completeLink b) := by
  unfold State.completeLink
  split
  · exact h
  · extract_lets s1 v s2
    have w : Acts b s s1 := h.modBay _
    have w2 : Acts b s s2 := by
      unfold s2
      split
      · exact ((w.modBay _).levelTests).writeBackTrigger _
      · split
        · exact (w.spendBay.levelTests).writeBackTrigger _
        · exact w.enterService _
    exact w2.tellChannel.raise _

theorem Acts.beginStep5 (h : Acts b s t) : Acts b s (t.beginStep5 b) := by
  unfold State.beginStep5
  extract_lets v clear
  split
  · exact (h.modBay _).enqueue _ _ _
  · exact h.completeLink

theorem Acts.settleEvidence (h : Acts b s t) (c e d : Nat) : Acts b s (t.settleEvidence b c e d) := by
  unfold State.settleEvidence
  split
  all_goals first | exact h.score _ _ _ | exact h

theorem Acts.setMarked (h : Acts b s t) (serial : Word64) : Acts b s (t.setMarked serial) := h.writeEntry _ _

theorem Acts.examineMark (h : Acts b s t) (o : Observed) (v : Verdict) : Acts b s (t.examineMark b o v) := by
  unfold State.examineMark
  repeat' split
  all_goals first | exact h | exact h.setMarked _ | exact (h.setMarked _).score _ _ _

theorem Acts.releaseMeter (h : Acts b s t) : Acts b s (t.releaseMeter b) := by
  unfold State.releaseMeter
  repeat' split
  all_goals first | exact h | exact h.modEntry _ _ | exact h.dequeue _

theorem Acts.refuseDuplicate (h : Acts b s t) : Acts b s (t.refuseDuplicate b) := by
  unfold State.refuseDuplicate
  dsimp only
  refine Acts.tellChannel (Acts.raise (Acts.modBay ?_ _) _)
  split
  · exact ((h.releaseCartridge _).releaseMeter).modBay _
  · exact h

theorem Acts.lookup (h : Acts b s t) {i : Identity} {o : Observed} (k : t.lookup b i o = some u) : Acts b s u := by
  unfold State.lookup at k
  split at k
  · cases k
    split
    · exact ((h.takeEntry _ _).modBay _).pfJoin _
    · exact (h.takeEntry _ _).modBay _
  · split at k
    · cases k
    · next hc =>
      cases k
      split
      · exact ((h.createEntry hc).modBay _).pfJoin _
      · exact (h.createEntry hc).modBay _

theorem Acts.reconcile (h : Acts b s t) (o : Observed) : Acts b s (t.reconcile b o) :=
  (((((h.modBay _).settleEvidence _ _ _).examineMark _ _).modBay _).refresh _).beginStep5

theorem Acts.backToStep2 (h : Acts b s t) : Acts b s (t.backToStep2 b) := (h.modBay _).enqueue _ _ _

theorem Acts.verdictTaken (h : Acts b s t) (v : Verdict) : Acts b s (t.verdictTaken b v) := by
  unfold State.verdictTaken
  split
  · exact h
  · exact h.policyTest

theorem Acts.tryStep4 (h : Acts b s t) : Acts b s (t.tryStep4 b) := by
  unfold State.tryStep4
  dsimp only
  split
  · split
    · exact h.refuseDuplicate
    · split
      · exact h
      · split
        · exact (h.modBay _).backToStep2
        · split
          · exact h.reconcile _
          · split
            · exact h
            · next hl => exact (((h.lookup hl).verdictTaken _).evaluate).reconcile _
  · exact h

theorem Acts.beginStep4 (h : Acts b s t) : Acts b s (t.beginStep4 b) := (h.modBay _).tryStep4

theorem Acts.linkAuth (h : Acts b s t) (a : AuthState) : Acts b s (t.linkAuth b a) := (h.setAuth _).policyTest

theorem Acts.unverifiable (h : Acts b s t) : Acts b s (t.unverifiable b) := ((h.modBay _).linkAuth _).beginStep4

theorem Acts.beginStep3 (h : Acts b s t) : Acts b s (t.beginStep3 b) := by
  unfold State.beginStep3
  dsimp only
  repeat' split
  · exact (h.modBay _).unverifiable
  · exact (h.modBay _).enqueue _ _ _
  · exact ((h.modBay _).linkAuth _).beginExchange _ _

theorem Acts.endLinkExchange (h : Acts b s t) (a : AuthState) : Acts b s (t.endLinkExchange b a) :=
  ((h.modBay _).linkAuth _).beginStep4

theorem Acts.exchangeCartridge (h : Acts b s t) (i : Identity) : Acts b s (t.exchangeCartridge b i) :=
  ((((h.releaseCartridge _).releaseMeter).modBay _).raise _).tellChannel

theorem Acts.identTaken (h : Acts b s t) (i : Identity) (o : Observed) : Acts b s (t.identTaken b i o) := by
  unfold State.identTaken
  extract_lets s1
  have w : Acts b s s1 := h.modBay _
  repeat' split
  · exact w.refuseDuplicate
  · exact (w.modBay _).beginStep3
  · exact (w.modBay _).beginStep3
  · exact (w.modBay _).beginStep3
  · exact (w.exchangeCartridge _).beginStep3

/-! ## Reports and the sweep -/

theorem Acts.secondChallenge (h : Acts b s t) (x : Option LinkStep) : Acts b s (t.secondChallenge b x) :=
  (h.modBay _).enqueue _ _ _

theorem Acts.linkResponse (h : Acts b s t) (n : Nonce) (d : List Byte) : Acts b s (t.linkResponse b n d) := by
  unfold State.linkResponse
  dsimp only
  repeat' split
  · exact h.backToStep2
  · exact h.endLinkExchange _
  · exact h.bumpChallengeFail.secondChallenge _
  · exact h.bumpChallengeFail.endLinkExchange _

theorem Acts.reportLinkChallenge (h : Acts b s t) (o : BusOutcome) (n : Nonce) (d : List Byte) :
    Acts b s (t.reportLinkChallenge b o n d) := by
  unfold State.reportLinkChallenge
  repeat' split
  · exact h.linkResponse _ _
  · exact h.linkFail
  · exact h

theorem Acts.recheckMismatch (h : Acts b s t) : Acts b s (t.recheckMismatch b) := by
  unfold State.recheckMismatch
  dsimp only
  split
  · exact h.bumpChallengeFail.secondChallenge _
  · exact ((((h.bumpChallengeFail.modBay _).setAuth _).raise _).policyTest).tellChannel

theorem Acts.reportRecheck (h : Acts b s t) (o : BusOutcome) (n : Nonce) (d : List Byte) :
    Acts b s (t.reportRecheck b o n d) := by
  unfold State.reportRecheck
  dsimp only
  repeat' split
  all_goals first | exact h.modBay _ | exact h.recheckMismatch | exact (h.modBay _).handleNoReply | exact h

theorem Acts.reportIdent (h : Acts b s t) (o : BusOutcome) (d : List Byte) : Acts b s (t.reportIdent b o d) := by
  unfold State.reportIdent
  repeat' split
  · exact h.identTaken _ _
  · exact h.linkFail
  · exact h

theorem Acts.reportMark (h : Acts b s t) (x : Option LinkStep) (o : BusOutcome) : Acts b s (t.reportMark b x o) := by
  unfold State.reportMark
  extract_lets s1
  have w : Acts b s s1 := by
    unfold s1 State.markPinned
    repeat' split
    all_goals first | exact h | exact h.setMarked _
  repeat' split
  all_goals first | exact w | exact w.linkFail | exact w.completeLink | exact w.handleNoReply

theorem Acts.reportService (h : Acts b s t) (o : BusOutcome) (d : List Byte) : Acts b s (t.reportService b o d) := by
  unfold State.reportService
  dsimp only
  split
  · exact (h.serviceEnd _ _).handleNoReply
  · exact h.serviceEnd _ _

theorem Acts.withdrawChallenge (h : Acts b s t) : Acts b s (t.withdrawChallenge b) := by
  unfold State.withdrawChallenge
  dsimp only
  repeat' split
  all_goals
    first
    | exact h.modBay _
    | exact ((h.modBay _).dequeue _).unverifiable
    | exact (((h.modBay _).dequeue _).modBay _).releaseSetup

/-- The sweep of an EXHAUSTED counter leaves the frame on each segment (R57). -/
theorem State.sweepExhausted_line (s : State) (g : Segment) :
    (s.sweepExhausted.seg g).exchange = (s.seg g).exchange ∧ (s.sweepExhausted.seg g).frameSeq = (s.seg g).frameSeq ∧
      (s.sweepExhausted.seg g).code = (s.seg g).code := by
  have hall (l : List BayId) : ∀ t : State,
      ((l.foldl State.withdrawChallenge t).seg g).exchange = (t.seg g).exchange ∧
        ((l.foldl State.withdrawChallenge t).seg g).frameSeq = (t.seg g).frameSeq ∧
        ((l.foldl State.withdrawChallenge t).seg g).code = (t.seg g).code := by
    induction l with
    | nil => exact fun t => ⟨rfl, rfl, rfl⟩
    | cons b l ih =>
      intro t
      obtain ⟨h1, h2, h3⟩ := ih (t.withdrawChallenge b)
      obtain ⟨k1, k2, k3⟩ := (Acts.withdrawChallenge (b := b) (Acts.refl (s := t))).around.line g
      exact ⟨h1.trans k1, h2.trans k2, h3.trans k3⟩
  unfold State.sweepExhausted
  split
  · exact hall _ s
  · exact ⟨rfl, rfl, rfl⟩

theorem State.sweepExhausted_of_ne (h : s.challenge.block ≠ .exhausted) : s.sweepExhausted = s := if_neg h

end Sys2Proof.Machine

/-! The arbiter of a segment and the end of its frames (R9, R25 to R28, R36, R37, R56, R84). -/

namespace Sys2Proof.Machine

variable {s t : State}

/-! ## Entries in a queue (R34) -/

theorem State.busEntry_eq_find (b : BayId) (k : EntryClass) :
    s.busEntry b k = (s.seg (baySeg b)).queue.find? (fun e => e.isFor b k) := rfl

theorem BusEntry.isFor_iff {e : BusEntry} {b : BayId} {k : EntryClass} : e.isFor b k = true ↔ e.bay = b ∧ e.cls = k := by
  simp [BusEntry.isFor]

theorem State.isFor_of_busEntry {b : BayId} {k : EntryClass} {e : BusEntry} (h : s.busEntry b k = some e) :
    e.bay = b ∧ e.cls = k := by
  rw [State.busEntry_eq_find] at h
  exact BusEntry.isFor_iff.mp (List.find?_some (p := fun e : BusEntry => e.isFor b k) h)

/-- A change of entries that keeps the bay and the class. -/
def KeepsOwner (f : BusEntry → BusEntry) : Prop := ∀ e, (f e).bay = e.bay ∧ (f e).cls = e.cls

theorem State.seg_modEntry (b : BayId) (k : EntryClass) (f : BusEntry → BusEntry) :
    (s.modEntry b k f).seg (baySeg b) = { s.seg (baySeg b) with
      queue := (s.seg (baySeg b)).queue.map (fun e => if e.isFor b k then f e else e) } := by
  simp [State.modEntry]

theorem State.seg_modEntry_ne {b : BayId} {g : Segment} (h : g ≠ baySeg b) (k : EntryClass) (f : BusEntry → BusEntry) :
    (s.modEntry b k f).seg g = s.seg g := by
  simp [State.modEntry, State.seg_modSeg_ne _ h]

@[simp] theorem State.bay_modEntry (b x : BayId) (k : EntryClass) (f : BusEntry → BusEntry) :
    (s.modEntry b k f).bay x = s.bay x := by simp [State.modEntry]

/-- The bay's entry of the class after a change of it. -/
theorem State.busEntry_modEntry {f : BusEntry → BusEntry} (hf : KeepsOwner f) (b : BayId) (k : EntryClass) :
    (s.modEntry b k f).busEntry b k = (s.busEntry b k).map f := by
  have hfor (e : BusEntry) : (if e.isFor b k then f e else e).isFor b k = e.isFor b k := by
    split
    · simp [BusEntry.isFor, hf e]
    · rfl
  rw [State.busEntry_eq_find, State.seg_modEntry, List.find?_map]
  simp only [Function.comp_def, hfor]
  rw [← State.busEntry_eq_find]
  cases he : s.busEntry b k with
  | none => rfl
  | some e => simp [BusEntry.isFor_iff.mpr (State.isFor_of_busEntry he)]

/-- The bay's entries of another class stand. -/
theorem State.busEntry_modEntry_ne {f : BusEntry → BusEntry} (hf : KeepsOwner f) {b : BayId} {k l : EntryClass}
    (h : l ≠ k) : (s.modEntry b k f).busEntry b l = s.busEntry b l := by
  have hfor (e : BusEntry) : (if e.isFor b k then f e else e).isFor b l = e.isFor b l := by
    split
    · simp [BusEntry.isFor, hf e]
    · rfl
  rw [State.busEntry_eq_find, State.seg_modEntry, List.find?_map]
  simp only [Function.comp_def, hfor]
  rw [← State.busEntry_eq_find]
  cases he : s.busEntry b l with
  | none => rfl
  | some e =>
    obtain ⟨_, hc⟩ := State.isFor_of_busEntry he
    have hno : e.isFor b k = false := by
      rw [Bool.eq_false_iff, Ne, BusEntry.isFor_iff, hc]
      exact fun x => h x.2
    simp [hno]

/-! ## SET CODE (R25 to R27) -/

theorem exec_arbiterTake {g : Segment} (h : (s.seg g).exchange = none) :
    exec (.arbiterTake g) s = .next (s.arbitrate g).sweepExhausted.conclude := if_pos h

/-- Settles O21. -/
theorem arbiterTakesSetCodeFirst : Obligations.ArbiterTakesSetCodeFirst := by
  intro s g e hx he hok hblock
  have helig : s.setCodeEligible (s.seg g) = true := by
    rcases hok with h | h <;> simp [State.setCodeEligible, he, State.powerFail, h]
  have hsend : (s.arbitrate g).sweepExhausted = s.sendSetCode g := by
    rw [State.arbitrate, if_pos helig, State.sweepExhausted_of_ne]
    simpa [State.sendSetCode] using hblock
  refine ⟨_, exec_arbiterTake hx, ?_⟩
  rw [hsend]
  refine ⟨⟨_, by simp [State.sendSetCode, nextCode]; rfl, rfl, rfl, rfl, rfl⟩, fun h hh => ?_, ?_⟩
  · simp [State.sendSetCode, State.seg_modSeg_ne _ hh]
  · simp [State.sendSetCode]

/-! ## The arbiter's choice (R36, R37) -/

section
variable {α : Type} {p q : α → Bool} {before after : List α} {a : α}

/-- The first of a list that two tests both hold of. -/
theorem find?_filter_first (hb : ∀ x ∈ before, p x = true → q x = false) (hp : p a = true) (hq : q a = true) :
    ((before ++ a :: after).filter p).find? q = some a := by
  have hnone : (before.filter p).find? q = none := by
    simpa using fun x hx hpx => hb x hx hpx
  simp [List.find?_append, hnone, hp, hq]

theorem find?_filter_nothing {l : List α} (h : ∀ x ∈ l, p x = true → q x = false) : (l.filter p).find? q = none := by
  simpa using fun x hx hpx => h x hx hpx

end

/-- The arbiter's choice is the entry that R37's tests find first. -/
theorem State.chooseEntry_first {g : Segment} {e : BusEntry} {before after : List BusEntry}
    (hq : (s.seg g).queue = before ++ e :: after) (hage : 0 < s.ageLimit) (hel : s.eligible (s.seg g) e = true)
    (h : (e.state = .pollDue ∧ ∀ x ∈ before, x.state ≠ .pollDue) ∨
      (e.state = .waiting ∧ (∀ x ∈ before ++ after, x.state ≠ .pollDue) ∧ s.now ≥ e.enqueued + s.ageLimit * 1000 ∧
        ∀ x ∈ before, s.eligible (s.seg g) x = true → s.now < x.enqueued + s.ageLimit * 1000) ∨
      (e.state = .waiting ∧ (∀ x ∈ before ++ after, x.state ≠ .pollDue) ∧
        (∀ x ∈ (s.seg g).queue, s.eligible (s.seg g) x = true → s.now < x.enqueued + s.ageLimit * 1000) ∧
        (∀ x ∈ before, s.eligible (s.seg g) x = true →
          (e.cls = .setup → x.cls ≠ .setup) ∧ (e.cls = .meter → x.cls = .service) ∧ e.cls ≠ .service) ∧
        ∀ x ∈ after, s.eligible (s.seg g) x = true →
          (e.cls = .meter → x.cls ≠ .setup) ∧ (e.cls = .service → x.cls = .service))) :
    s.chooseEntry (s.seg g) = some e := by
  have hyoung {x : BusEntry} (hx : s.now < x.enqueued + s.ageLimit * 1000) : s.aged x = false := by
    simp only [State.aged, decide_eq_false_iff_not]
    omega
  unfold State.chooseEntry
  rw [hq] at *
  rcases h with ⟨hst, hb⟩ | ⟨hst, hnp, hold, hb⟩ | ⟨hst, hnp, hall, hb, ha⟩
  · have h1 := find?_filter_first (p := fun e => s.eligible (s.seg g) e) (q := fun e => e.state == .pollDue) (a := e)
      (before := before) (after := after) (fun x hx _ => by simpa using hb x hx) hel (by simp [hst])
    simp only [h1]
  all_goals
    have h1 := find?_filter_nothing (p := fun e => s.eligible (s.seg g) e) (q := fun e => e.state == .pollDue)
      (l := before ++ e :: after) (fun x hx _ => by
        rcases List.mem_append.mp hx with hx | hx
        · simpa using hnp x (List.mem_append_left _ hx)
        · rcases List.mem_cons.mp hx with rfl | hx
          · simp [hst]
          · simpa using hnp x (List.mem_append_right _ hx))
    simp only [h1]
  · have h2 := find?_filter_first (p := fun e => s.eligible (s.seg g) e) (q := fun e => s.aged e) (a := e)
      (before := before) (after := after) (fun x hx hp => hyoung (hb x hx hp)) hel
      (by simp only [State.aged, decide_eq_true_eq]; omega)
    simp only [h2]
  · have h2 := find?_filter_nothing (p := fun e => s.eligible (s.seg g) e) (q := fun e => s.aged e)
      (l := before ++ e :: after) (fun x hx hp => hyoung (hall x hx hp))
    simp only [h2]
    have hfirst (k : EntryClass) (hk : e.cls = k)
        (hbk : ∀ x ∈ before, s.eligible (s.seg g) x = true → (x.cls == k) = false) :=
      find?_filter_first (p := fun e => s.eligible (s.seg g) e) (q := fun e => e.cls == k) (a := e)
        (before := before) (after := after) hbk hel (by simp [hk])
    have hnothing (k : EntryClass) (hk : e.cls ≠ k)
        (hbk : ∀ x ∈ before, s.eligible (s.seg g) x = true → (x.cls == k) = false)
        (hak : ∀ x ∈ after, s.eligible (s.seg g) x = true → (x.cls == k) = false) :=
      find?_filter_nothing (p := fun e => s.eligible (s.seg g) e) (q := fun e => e.cls == k)
        (l := before ++ e :: after) (fun x hx hp => by
          rcases List.mem_append.mp hx with hx | hx
          · exact hbk x hx hp
          · rcases List.mem_cons.mp hx with rfl | hx
            · simpa using hk
            · exact hak x hx hp)
    cases hc : e.cls with
    | setup =>
      have h3 := hfirst .setup hc fun x hx hp => by simpa using (hb x hx hp).1 hc
      simp only [h3]
    | meter =>
      have h3 := hnothing .setup (by simp [hc]) (fun x hx hp => by simp [(hb x hx hp).2.1 hc])
        fun x hx hp => by simpa using (ha x hx hp).1 hc
      have h4 := hfirst .meter hc fun x hx hp => by simp [(hb x hx hp).2.1 hc]
      simp only [h3, h4]
    | service =>
      have h3 := hnothing .setup (by simp [hc]) (fun x hx hp => absurd hc (hb x hx hp).2.2)
        fun x hx hp => by simp [(ha x hx hp).2 hc]
      have h4 := hnothing .meter (by simp [hc]) (fun x hx hp => absurd hc (hb x hx hp).2.2)
        fun x hx hp => by simp [(ha x hx hp).2 hc]
      have h5 := hfirst .service hc fun x hx hp => absurd hc (hb x hx hp).2.2
      simp only [h3, h4, h5]

/-! ## Frames of bay entries (R27, R28, R31, R32, R84) -/

/-- The exchange that a frame of a bay entry begins (R28). -/
def State.sendingExchange (s : State) (e : BusEntry) (nonce : Nonce) : Exchange :=
  let poll := e.state == .pollDue
  let c := s.seg (baySeg e.bay)
  let bytes :=
    if poll then busFrameBytes c.code (baySlot e.bay) pollCode c.frameSeq []
    else busFrameBytes c.code (baySlot e.bay) e.op.code c.frameSeq (e.args nonce)
  { what := .entry e.bay e.cls poll, bytes := bytes, code := c.code, slot := baySlot e.bay, seq := c.frameSeq
    nonce := nonce, endsAt := s.now + Config.busByteUs * bytes.length, window := none, abandoned := false }

/-- An entry whose frame is being sent. -/
def BusEntry.sending (e : BusEntry) : BusEntry := { e with state := .onBus, sent := true }

theorem BusEntry.keepsOwner_sending : KeepsOwner BusEntry.sending := fun _ => ⟨rfl, rfl⟩

theorem State.seg_sendEntry (e : BusEntry) (nonce : Nonce) :
    (s.sendEntry e nonce).seg (baySeg e.bay) = { s.seg (baySeg e.bay) with
      queue := ((s.modEntry e.bay e.cls BusEntry.sending).seg (baySeg e.bay)).queue
      frameSeq := (s.seg (baySeg e.bay)).frameSeq + 1
      exchange := some (s.sendingExchange e nonce) } := by
  simp only [State.sendEntry, State.seg_modSeg, State.seg_modEntry]
  rfl

theorem State.busEntry_sendEntry (e : BusEntry) (nonce : Nonce) :
    (s.sendEntry e nonce).busEntry e.bay e.cls = (s.busEntry e.bay e.cls).map BusEntry.sending := by
  rw [← State.busEntry_modEntry BusEntry.keepsOwner_sending]
  simp [State.busEntry_eq_find, State.seg_sendEntry]

@[simp] theorem State.bay_sendEntry (e : BusEntry) (nonce : Nonce) (x : BayId) :
    (s.sendEntry e nonce).bay x = s.bay x := by simp [State.sendEntry]
@[simp] theorem State.sendEntry_bays (e : BusEntry) (nonce : Nonce) : (s.sendEntry e nonce).bays = s.bays := by
  simp [State.sendEntry, State.modEntry]
@[simp] theorem State.sendEntry_challenge (e : BusEntry) (nonce : Nonce) :
    (s.sendEntry e nonce).challenge = s.challenge := by simp [State.sendEntry, State.modEntry]
@[simp] theorem State.sendEntry_hist (e : BusEntry) (nonce : Nonce) :
    (s.sendEntry e nonce).hist = s.hist := by simp [State.sendEntry, State.modEntry]

@[simp] theorem State.seg_drawNonce (g : Segment) : s.drawNonce.seg g = s.seg g := by
  unfold State.drawNonce State.afterDraw
  dsimp only
  repeat' split
  all_goals cases g <;> rfl

@[simp] theorem State.drawNonce_bays : s.drawNonce.bays = s.bays := by
  unfold State.drawNonce State.afterDraw
  dsimp only
  repeat' split
  all_goals rfl

/-- The counter and the reservations asked for after a draw (R54, R56, R57). -/
theorem State.drawNonce_challenge :
    s.drawNonce.challenge.next = s.challenge.next + 1 ∧ s.drawNonce.challenge.blockEnd = s.challenge.blockEnd ∧
      (s.challenge.next + 1 ≠ s.challenge.blockEnd →
        s.drawNonce.challenge.block = s.challenge.block ∧ s.drawNonce.hist.keySaves = s.hist.keySaves) ∧
      (s.challenge.next + 1 = s.challenge.blockEnd → s.challenge.blockEnd ≠ 2 ^ 48 →
        s.drawNonce.challenge.block = .reserving ∧
          s.drawNonce.hist.keySaves = s.hist.keySaves ++ [.reserve (s.challenge.blockEnd + 4096)]) ∧
      (s.challenge.next + 1 = s.challenge.blockEnd → s.challenge.blockEnd = 2 ^ 48 →
        s.drawNonce.challenge.block = .exhausted ∧ s.drawNonce.hist.keySaves = s.hist.keySaves) := by
  unfold State.drawNonce State.afterDraw
  dsimp only
  have hend : Config.challengeEnd = 2 ^ 48 := rfl
  have hblock : Config.challengeBlock = 4096 := rfl
  rw [hend, hblock]
  by_cases h1 : s.challenge.next + 1 = s.challenge.blockEnd
  · by_cases h2 : s.challenge.blockEnd = 2 ^ 48
    · rw [if_pos h1, if_pos h2]
      exact ⟨rfl, rfl, fun h => absurd h1 h, fun _ h => absurd h2 h, fun _ _ => ⟨rfl, rfl⟩⟩
    · rw [if_pos h1, if_neg h2]
      exact ⟨rfl, rfl, fun h => absurd h1 h, fun _ _ => ⟨rfl, rfl⟩, fun _ h => absurd h h2⟩
  · rw [if_neg h1]
    exact ⟨rfl, rfl, fun _ => ⟨rfl, rfl⟩, fun h => absurd h h1, fun h => absurd h h1⟩

@[simp] theorem State.bay_drawAdvance_ne {b x : BayId} (h : x ≠ b) : (s.drawAdvance b).bay x = s.bay x := by
  simp [State.drawAdvance, State.bay_modBay_ne _ h]

/-- The figures after an advance is drawn (R84). -/
theorem State.bay_drawAdvance (b : BayId) : (s.drawAdvance b).bay b = { s.bay b with
    owing := (s.bay b).owing - min (s.bay b).owing (2 ^ 32 - 1)
    inFlight := min (s.bay b).owing (2 ^ 32 - 1), advSeq := (s.bay b).advSeq + 1 } := by
  simp [State.drawAdvance, Config.max32]

/-- The advance that a bay's METER entry draws (R84). -/
def Bay.nextAdvance (v : Bay) : Drawn :=
  ⟨min v.owing (2 ^ 32 - 1), v.advSeq + 1, v.identity.map Identity.serial⟩

theorem State.busEntry_drawAdvance (b : BayId) :
    (s.drawAdvance b).busEntry b .meter =
      (s.busEntry b .meter).map (fun e => { e with drawn := some (s.bay b).nextAdvance }) := by
  have hf : KeepsOwner fun e => { e with drawn := some (s.bay b).nextAdvance } := fun _ => ⟨rfl, rfl⟩
  have h := State.busEntry_modEntry (s := s.modBay b fun v => { v with
    owing := v.owing - min (s.bay b).owing (2 ^ 32 - 1), inFlight := min (s.bay b).owing (2 ^ 32 - 1)
    advSeq := (s.bay b).advSeq + 1 }) hf b .meter
  rw [State.busEntry_modBay] at h
  exact h

theorem State.busEntry_drawAdvance_ne {b : BayId} {k : EntryClass} (h : k ≠ .meter) :
    (s.drawAdvance b).busEntry b k = s.busEntry b k := by
  have hf : KeepsOwner fun e => { e with drawn := some (s.bay b).nextAdvance } := fun _ => ⟨rfl, rfl⟩
  have h := State.busEntry_modEntry_ne (s := s.modBay b fun v => { v with
    owing := v.owing - min (s.bay b).owing (2 ^ 32 - 1), inFlight := min (s.bay b).owing (2 ^ 32 - 1)
    advSeq := (s.bay b).advSeq + 1 }) hf (b := b) h
  rw [State.busEntry_modBay] at h
  exact h

@[simp] theorem State.drawAdvance_challenge (b : BayId) : (s.drawAdvance b).challenge = s.challenge := by
  simp [State.drawAdvance, State.modEntry]
@[simp] theorem State.drawAdvance_now (b : BayId) : (s.drawAdvance b).now = s.now := by
  simp [State.drawAdvance, State.modEntry]

/-- Drawing leaves the segment but for its queue. -/
theorem State.seg_drawAdvance (b : BayId) :
    (s.drawAdvance b).seg (baySeg b) = { s.seg (baySeg b) with
      queue := ((s.drawAdvance b).seg (baySeg b)).queue } := by
  simp [State.drawAdvance, State.seg_modEntry]

/-! ## The arbiter takes an entry (R37) -/

/-- With no SET CODE entry the arbiter takes what it chooses. -/
theorem State.arbitrate_entry {g : Segment} {e : BusEntry} (hset : (s.seg g).setCode = none)
    (hch : s.chooseEntry (s.seg g) = some e) : s.arbitrate g = s.takeBusEntry e := by
  simp [State.arbitrate, State.setCodeEligible, hset, hch]

/-- A poll, and any operation but a CHALLENGE and a first ADVANCE, only sends its frame. -/
theorem State.takeBusEntry_sends {e : BusEntry} (h : e.state = .pollDue ∨ (e.op ≠ .challenge ∧ e.op ≠ .advance) ∨
    (e.op = .advance ∧ e.drawn.isSome = true)) : s.takeBusEntry e = s.sendEntry e 0 := by
  unfold State.takeBusEntry
  rcases h with h | ⟨h1, h2⟩ | ⟨h1, h2⟩
  · simp [h]
  · cases hop : e.op <;> simp_all
  · simp [h1, h2]

theorem State.takeBusEntry_challenge {e : BusEntry} (hst : e.state ≠ .pollDue) (hop : e.op = .challenge) :
    s.takeBusEntry e = (s.sendEntry e s.nextNonce).drawNonce := by
  simp [State.takeBusEntry, hst, hop]

theorem State.takeBusEntry_firstAdvance {e : BusEntry} (hst : e.state ≠ .pollDue) (hop : e.op = .advance)
    (hd : e.drawn = none) : s.takeBusEntry e =
      (s.drawAdvance e.bay).sendEntry (((s.drawAdvance e.bay).busEntry e.bay e.cls).getD e) 0 := by
  simp [State.takeBusEntry, hst, hop, hd]

/-- The exchange of a frame, but for the operation's arguments. -/
theorem State.sendingExchange_spec (e : BusEntry) (nonce : Nonce) :
    (s.sendingExchange e nonce).what = .entry e.bay e.cls (e.state == .pollDue) ∧
      (s.sendingExchange e nonce).code = (s.seg (baySeg e.bay)).code ∧
      (s.sendingExchange e nonce).slot = baySlot e.bay ∧
      (s.sendingExchange e nonce).seq = (s.seg (baySeg e.bay)).frameSeq ∧
      (s.sendingExchange e nonce).window = none ∧
      (s.sendingExchange e nonce).bytes.take 3 = [(s.seg (baySeg e.bay)).code,
        u8 (baySlot e.bay * 16 + (if e.state = .pollDue then 7 else e.op.code)), (s.seg (baySeg e.bay)).frameSeq] := by
  refine ⟨rfl, rfl, rfl, rfl, rfl, ?_⟩
  by_cases h : e.state = .pollDue <;> simp [State.sendingExchange, h, busFrameBytes, pollCode]

/-- A taken entry's exchange is that of its frame, with the operation's own arguments. -/
theorem State.takeBusEntry_exchange {e : BusEntry} (h : s.busEntry e.bay e.cls = some e) :
    ∃ x, ((s.takeBusEntry e).seg (baySeg e.bay)).exchange = some x ∧
      x.what = .entry e.bay e.cls (e.state == .pollDue) ∧ x.code = (s.seg (baySeg e.bay)).code ∧
      x.slot = baySlot e.bay ∧ x.seq = (s.seg (baySeg e.bay)).frameSeq ∧
      ((s.takeBusEntry e).seg (baySeg e.bay)).frameSeq = (s.seg (baySeg e.bay)).frameSeq + 1 ∧ x.window = none ∧
      x.bytes.take 3 = [(s.seg (baySeg e.bay)).code,
        u8 (baySlot e.bay * 16 + (if e.state = .pollDue then 7 else e.op.code)), (s.seg (baySeg e.bay)).frameSeq] := by
  by_cases hplain : e.state = .pollDue ∨ (e.op ≠ .challenge ∧ e.op ≠ .advance) ∨
      (e.op = .advance ∧ e.drawn.isSome = true)
  · obtain ⟨h1, h2, h3, h4, h5, h6⟩ := s.sendingExchange_spec e 0
    rw [State.takeBusEntry_sends hplain, State.seg_sendEntry]
    exact ⟨_, rfl, h1, h2, h3, h4, rfl, h5, h6⟩
  · obtain ⟨hst, hrest⟩ := not_or.mp hplain
    by_cases hop : e.op = .challenge
    · obtain ⟨h1, h2, h3, h4, h5, h6⟩ := s.sendingExchange_spec e s.nextNonce
      rw [State.takeBusEntry_challenge hst hop, State.seg_drawNonce, State.seg_sendEntry]
      exact ⟨_, rfl, h1, h2, h3, h4, rfl, h5, h6⟩
    · have hadv : e.op = .advance := by tauto
      have hd : e.drawn = none := by
        rw [← Option.not_isSome_iff_eq_none]
        tauto
      rw [State.takeBusEntry_firstAdvance hst hadv hd]
      obtain ⟨m, hm, hbay, hcls, hstate, hmop⟩ : ∃ m, (s.drawAdvance e.bay).busEntry e.bay e.cls = some m ∧
          m.bay = e.bay ∧ m.cls = e.cls ∧ m.state = e.state ∧ m.op = e.op := by
        by_cases hk : e.cls = .meter
        · rw [hk, State.busEntry_drawAdvance, ← hk, h]
          exact ⟨_, rfl, rfl, rfl, rfl, rfl⟩
        · rw [State.busEntry_drawAdvance_ne hk, h]
          exact ⟨_, rfl, rfl, rfl, rfl, rfl⟩
      obtain ⟨h1, h2, h3, h4, h5, h6⟩ := (s.drawAdvance e.bay).sendingExchange_spec m 0
      rw [hm, Option.getD_some, ← hbay, State.seg_sendEntry]
      rw [hbay, State.seg_drawAdvance] at h2 h4 h6
      rw [hbay, State.seg_drawAdvance]
      exact ⟨_, rfl, by rw [h1, hbay, hcls, hstate], h2, by rw [h3, hbay], h4, rfl, h5,
        by rw [h6, hstate, hmop]⟩

/-- Settles O22. -/
theorem arbiterTakesTheFirstInOrder : Obligations.ArbiterTakesTheFirstInOrder := by
  intro s g e before after hx hset hq hg hbefore hage hel horder
  subst hg
  have hbus : s.busEntry e.bay e.cls = some e := by
    rw [State.busEntry_eq_find, hq, List.find?_append, List.find?_eq_none.mpr fun x hx => by simp [hbefore x hx]]
    simp [BusEntry.isFor]
  obtain ⟨x, h1, h2, h3, h4, h5, h6, h7, h8⟩ := State.takeBusEntry_exchange hbus
  have hline := (s.takeBusEntry e).sweepExhausted_line (baySeg e.bay)
  refine ⟨_, x, exec_arbiterTake hx, ?_⟩
  rw [State.arbitrate_entry hset (State.chooseEntry_first hq hage hel horder), State.seg_conclude, hline.1, hline.2.1]
  exact ⟨h1, h2, h3, h4, h5, h6, h7, h8⟩

/-- Settles O24: the frame carries the nonce, and the draw acts on the counter. -/
theorem challengeDrawsItsNonce : Obligations.ChallengeDrawsItsNonce := by
  intro s g e hx hset hch hg hop hst
  subst hg
  have hnp : e.state ≠ .pollDue := by simp [hst]
  have harb := (State.arbitrate_entry hset hch).trans (State.takeBusEntry_challenge hnp hop)
  obtain ⟨d1, d2, d3, d4, d5⟩ := State.drawNonce_challenge (s := s.sendEntry e s.nextNonce)
  have hin : Within (s.arbitrate (baySeg e.bay)) (s.arbitrate (baySeg e.bay)).sweepExhausted := (Within.refl _).sweepExhausted
  have hreserved : s.challenge.block = .reserved := State.eligible_challenge (State.chooseEntry_eligible hch).2 hop hnp
  have hline := (s.arbitrate (baySeg e.bay)).sweepExhausted_line (baySeg e.bay)
  refine ⟨_, s.sendingExchange e s.nextNonce, exec_arbiterTake hx, ?_⟩
  rw [State.seg_conclude, hline.1, State.conclude_challenge, State.conclude_hist_keySaves, State.conclude_bays,
    hin.challenge, hin.keySaves, harb, State.seg_drawNonce, State.seg_sendEntry]
  simp only [State.sendEntry_challenge, State.sendEntry_hist] at d1 d2 d3 d4 d5
  refine ⟨rfl, rfl, ?_, d1, d2, fun h => ?_, fun h1 h2 => ?_, d5⟩
  · simp [State.sendingExchange, hst, busFrameBytes, hop, BusOp.code, BusEntry.args, State.nextNonce]
  · obtain ⟨hblock, hsaves⟩ := d3 h
    rw [State.sweepExhausted_of_ne (by rw [hblock, hreserved]; decide)]
    exact ⟨hblock.trans hreserved, hsaves, by simp⟩
  · obtain ⟨hblock, hsaves⟩ := d4 h1 h2
    rw [State.sweepExhausted_of_ne (by rw [hblock]; decide)]
    exact ⟨hblock, by simp, hsaves⟩

/-- The METER entry and the frame of an ADVANCE whose draw stands in the entry. -/
theorem State.sendEntry_drawn {m : BusEntry} {w : Drawn} (hm : s.busEntry m.bay m.cls = some m) (hst : m.state = .waiting)
    (hop : m.op = .advance) (hd : m.drawn = some w) :
    ((s.sendEntry m 0).seg (baySeg m.bay)).exchange = some (s.sendingExchange m 0) ∧
      (s.sendingExchange m 0).bytes = busFrameBytes (s.seg (baySeg m.bay)).code (baySlot m.bay) 4
        (s.seg (baySeg m.bay)).frameSeq (leBytes 4 w.delta ++ leBytes 4 w.seq.toNat) ∧
      (s.sendEntry m 0).busEntry m.bay m.cls = some m.sending := by
  refine ⟨by rw [State.seg_sendEntry], ?_, by rw [State.busEntry_sendEntry, hm]; rfl⟩
  simp [State.sendingExchange, hst, hop, BusEntry.args, hd, BusOp.code]

/-- Settles O23. -/
theorem advanceIsDrawnAtItsFirstTake : Obligations.AdvanceIsDrawnAtItsFirstTake := by
  intro s g e b hx hset hch hb hg hbus hcls hop hst hblock
  subst hg hb
  have hnp : e.state ≠ .pollDue := by simp [hst]
  refine ⟨fun hd => ?_, fun w hd => ?_⟩
  · have harb := (State.arbitrate_entry hset hch).trans (State.takeBusEntry_firstAdvance hnp hop hd)
    have hm : (s.drawAdvance e.bay).busEntry e.bay e.cls = some { e with drawn := some (s.bay e.bay).nextAdvance } := by
      have hdrawn := State.busEntry_drawAdvance (s := s) e.bay
      rw [hbus, ← hcls] at hdrawn
      exact hdrawn
    rw [hm, Option.getD_some] at harb
    obtain ⟨h1, h2, h3⟩ := State.sendEntry_drawn (s := s.drawAdvance e.bay)
      (m := { e with drawn := some (s.bay e.bay).nextAdvance }) (w := (s.bay e.bay).nextAdvance) hm hst hop rfl
    have hsweep : (s.arbitrate (baySeg e.bay)).sweepExhausted = s.arbitrate (baySeg e.bay) := by
      apply State.sweepExhausted_of_ne
      rw [harb, State.sendEntry_challenge, State.drawAdvance_challenge]
      exact hblock
    refine ⟨_, (s.drawAdvance e.bay).sendingExchange { e with drawn := some (s.bay e.bay).nextAdvance } 0,
      exec_arbiterTake hx, ?_⟩
    rw [hsweep, harb]
    simp only [State.bay_conclude, State.bay_sendEntry, State.seg_conclude]
    refine ⟨State.bay_drawAdvance _, fun hzero => ?_, fun x hx => ?_, h1, ?_, ?_⟩
    · rw [State.bay_drawAdvance]
      simp only [Bay.consumed]
      omega
    · simp [hx]
    · rw [h2, State.seg_drawAdvance]
      rfl
    · refine ⟨BusEntry.sending { e with drawn := some (s.bay e.bay).nextAdvance }, ?_, rfl, rfl, rfl⟩
      rw [← h3, hcls]
      simp [State.busEntry_eq_find]
  · have harb := (State.arbitrate_entry hset hch).trans
      (State.takeBusEntry_sends (.inr (.inr ⟨hop, by simp [hd]⟩)))
    obtain ⟨h1, h2, h3⟩ := State.sendEntry_drawn (by rw [hcls]; exact hbus) hst hop hd
    have hsweep : (s.arbitrate (baySeg e.bay)).sweepExhausted = s.arbitrate (baySeg e.bay) := by
      apply State.sweepExhausted_of_ne
      rw [harb, State.sendEntry_challenge]
      exact hblock
    refine ⟨_, s.sendingExchange e 0, exec_arbiterTake hx, ?_⟩
    rw [hsweep, harb]
    refine ⟨by simp, by simpa using h1, h2, e.sending, ?_, rfl, hd⟩
    rw [← h3, hcls]
    simp [State.busEntry_eq_find]

end Sys2Proof.Machine

/-! The end of a frame and a stale reply (R9, R26, R28). -/

namespace Sys2Proof.Machine

variable {s t : State}

/-- Settles O26: no open exchange, or one whose reply does not match. -/
theorem staleReplyCountsForNothing : Obligations.StaleReplyCountsForNothing := by
  intro s g c h q rest hno
  have hstale : s.openExchange g = none ∨ ∃ x w, s.openExchange g = some (x, w) ∧
      x.matchesReply (c :: h :: q :: rest) = false := by
    rcases hno with hx | ⟨x, hx, hw⟩ | ⟨x, hx, hbytes⟩
    · exact .inl (by simp [State.openExchange, hx])
    · exact .inl (by simp [State.openExchange, hx, hw])
    · cases hw : x.window with
      | none => exact .inl (by simp [State.openExchange, hx, hw])
      | some w =>
        refine .inr ⟨x, w, by simp [State.openExchange, hx, hw], ?_⟩
        simp only [Exchange.matchesReply, Bool.and_eq_false_iff, beq_eq_false_iff_ne]
        tauto
  rcases hstale with hn | ⟨x, w, hx, hm⟩
  · simp [exec, execBusReplyTaken, execBusReplyGapTimeout, hn]
  · simp [exec, execBusReplyTaken, execBusReplyGapTimeout, hx, hm]

/-! ## The end of a SET CODE (R9, R26) -/

/-- The bay of an entry is in its segment's step 1. -/
theorem State.stepOneDone_of_step {b : BayId} (h : (s.bay b).step = some .setCode) :
    s.stepOneDone b =
      (let s1 := s.modBay b (fun v => { v with step := some .ident })
       if (s.busEntry b .setup).isNone then s1.enqueue b .setup .ident (some .ident) else s1) := by
  simp [State.stepOneDone, h]

theorem State.stepOneDone_of_not {b : BayId} (h : (s.bay b).step ≠ some .setCode) : s.stepOneDone b = s := if_neg h

/-- A bay's record after step 1 has ended for a bay (R9). -/
theorem State.bay_stepOneDone (b x : BayId) : (s.stepOneDone b).bay x = { s.bay x with
    step := if x = b ∧ (s.bay x).step = some .setCode then some .ident else (s.bay x).step } := by
  by_cases h : (s.bay b).step = some .setCode
  · have hbay : (s.stepOneDone b).bay x = (s.modBay b (fun v => { v with step := some .ident })).bay x := by
      rw [State.stepOneDone_of_step h]
      dsimp only
      split <;> simp
    rw [hbay]
    by_cases hx : x = b
    · subst hx; simp [h]
    · simp [State.bay_modBay_ne _ hx, hx]
  · rw [State.stepOneDone_of_not h]
    by_cases hx : x = b
    · subst hx; simp [h]
    · simp [hx]

/-- The segments after step 1 has ended for a bay: its IDENT at the end of its queue, where its SETUP entry is free. -/
theorem State.seg_stepOneDone (b : BayId) (g : Segment) : (s.stepOneDone b).seg g = { s.seg g with
    queue := (s.seg g).queue ++
      if g = baySeg b ∧ (s.bay b).step = some .setCode ∧ s.busEntry b .setup = none then
        [newBusEntry b .setup .ident (some .ident) s.now]
      else [] } := by
  by_cases h : (s.bay b).step = some .setCode
  · rw [State.stepOneDone_of_step h]
    dsimp only
    cases he : s.busEntry b .setup with
    | some e => simp
    | none =>
      by_cases hg : g = baySeg b
      · subst hg; simp [State.seg_enqueue, h]
      · simp [State.seg_enqueue_ne hg, hg]
  · rw [State.stepOneDone_of_not h]
    simp [h]

theorem State.stepOneDone_eq (b : BayId) : s.stepOneDone b = { s with
    bays := (s.stepOneDone b).bays, segL := (s.stepOneDone b).segL, segR := (s.stepOneDone b).segR } := by
  unfold State.stepOneDone
  dsimp only
  repeat' split
  · rw [State.enqueue_eq]
    rfl
  · rfl
  · rfl

/-- What has been done of the bays a SET CODE serves, from `s` to `t`. -/
structure Served (l : List BayId) (s t : State) : Prop where
  eq : t = { s with bays := t.bays, segL := t.segL, segR := t.segR }
  bay : ∀ b, t.bay b = { s.bay b with
    step := if b ∈ l ∧ (s.bay b).step = some .setCode then some .ident else (s.bay b).step }
  seg : ∀ g, ∃ more, t.seg g = { s.seg g with queue := (s.seg g).queue ++ more } ∧
    ∀ e ∈ more, baySeg e.bay = g ∧ e.bay ∈ l
  ident : ∀ b ∈ l, (s.bay b).step = some .setCode → s.busEntry b .setup = none →
    t.busEntry b .setup = some (newBusEntry b .setup .ident (some .ident) s.now)

theorem Served.nil (s : State) : Served [] s s :=
  ⟨rfl, fun _ => by simp, fun _ => ⟨[], by simp, by simp⟩, fun _ h => by simp at h⟩

/-- Step 1 ends for one more bay. -/
theorem Served.cons {b : BayId} {l : List BayId} (h : Served l (s.stepOneDone b) t) : Served (b :: l) s t := by
  have hnow : (s.stepOneDone b).now = s.now := by rw [State.stepOneDone_eq]
  refine ⟨?_, fun x => ?_, fun g => ?_, fun x hx hstep hnone => ?_⟩
  · rw [h.eq, State.stepOneDone_eq]
  · rw [h.bay x, State.bay_stepOneDone]
    by_cases hx : x = b <;> by_cases hl : x ∈ l <;> by_cases hs : (s.bay x).step = some .setCode <;> simp_all
  · obtain ⟨more, hmore, hown⟩ := h.seg g
    rw [State.seg_stepOneDone] at hmore
    refine ⟨_, by rw [hmore, List.append_assoc], fun e he => ?_⟩
    rcases List.mem_append.mp he with he | he
    · split at he
      · next hg =>
        rw [List.mem_singleton.mp he]
        exact ⟨hg.1.symm, by simp [newBusEntry]⟩
      · cases he
    · exact ⟨(hown e he).1, List.mem_cons_of_mem _ (hown e he).2⟩
  · by_cases hxb : x = b
    · subst hxb
      obtain ⟨more, hmore, _⟩ := h.seg (baySeg x)
      rw [State.busEntry_eq_find] at hnone ⊢
      rw [hmore, State.seg_stepOneDone]
      simp only [List.find?_append, hnone, Option.none_or, true_and, hstep, State.busEntry_eq_find]
      simp [newBusEntry, BusEntry.isFor]
    · have hxl : x ∈ l := (List.mem_cons.mp hx).resolve_left hxb
      rw [h.ident x hxl ?_ ?_, hnow]
      · rw [State.bay_stepOneDone]
        simpa [hxb] using hstep
      · rw [State.busEntry_eq_find] at hnone ⊢
        rw [State.seg_stepOneDone, List.find?_append, hnone]
        split
        · simp [newBusEntry, BusEntry.isFor, Ne.symm hxb]
        · rfl

theorem State.served : ∀ (l : List BayId) (s : State), Served l s (l.foldl State.stepOneDone s)
  | [], s => .nil s
  | b :: l, s => (State.served l (s.stepOneDone b)).cons

/-- A re-coded entry (R26). -/
theorem BusEntry.recode_eq (e : BusEntry) : e.recode.awaitRecode = none ∧ e.recode = { e with
    recoded := e.recoded || e.attempts != 0
    awaitRecode := none
    state :=
      match e.awaitRecode with
      | some true => .pollDue
      | some false => .waiting
      | none => e.state } := by
  have hrec : (if e.attempts = 0 then e else { e with recoded := true }) =
      { e with recoded := e.recoded || e.attempts != 0 } := by
    cases e
    simp only
    split <;> simp [*]
  unfold BusEntry.recode
  rw [hrec]
  rcases e.awaitRecode.eq_none_or_eq_some with h | ⟨p, h⟩
  · simp [h]
  · cases p <;> simp [h]

theorem BusEntry.recode_owner (e : BusEntry) : e.recode.bay = e.bay ∧ e.recode.cls = e.cls := by
  rw [e.recode_eq.2]
  exact ⟨rfl, rfl⟩

theorem exec_busFrameEnd {g : Segment} {x : Exchange} (hx : (s.seg g).exchange = some x) (hw : x.window = none) :
    exec (.busFrameEnd g) s = .next ((s.advanceTo x.endsAt).frameSent g x) := by
  simp [exec, execBusFrameEnd, hx, hw]

/-- The state as the exchange of a SET CODE ends, before the bays it serves (R26). -/
def State.recoded (s : State) (g : Segment) : State :=
  s.modSeg g (fun c => { c with exchange := none, queue := c.queue.map BusEntry.recode })

theorem State.busEntry_recoded {b : BayId} {k : EntryClass} (h : s.busEntry b k = none) (g : Segment) :
    (s.recoded g).busEntry b k = none := by
  have hfor (e : BusEntry) : e.recode.isFor b k = e.isFor b k := by simp [BusEntry.isFor, e.recode_owner]
  rw [State.busEntry_eq_find] at h ⊢
  by_cases hg : baySeg b = g
  · subst hg
    simp only [State.recoded, State.seg_modSeg, List.find?_map, Function.comp_def, hfor, h, Option.map_none]
  · simpa [State.recoded, State.seg_modSeg_ne _ hg] using h

/-- Settles O25. -/
theorem frameEndOpensTheWindow : Obligations.FrameEndOpensTheWindow := by
  intro s g x hx hw
  refine ⟨fun b k poll hwhat => ?_, fun serves hwhat hserves => ?_⟩
  · refine ⟨_, exec_busFrameEnd hx hw, ?_⟩
    simp only [State.frameSent, hwhat, State.openWindow]
    refine ⟨by simp, fun h hh => by simp [State.seg_modSeg_ne _ hh], ?_⟩
    apply State.eq_of_fields <;> simp
  · have hend : (s.advanceTo x.endsAt).frameSent g x = serves.foldl State.stepOneDone ((s.advanceTo x.endsAt).recoded g) := by
      simp only [State.frameSent, hwhat]
      rfl
    have hs := State.served serves ((s.advanceTo x.endsAt).recoded g)
    rw [← hend] at hs
    refine ⟨_, exec_busFrameEnd hx hw, ?_⟩
    generalize (s.advanceTo x.endsAt).frameSent g x = t at hs
    obtain ⟨more, hmore, _⟩ := hs.seg g
    refine ⟨?_, fun h hh => ?_, fun b => ?_, fun e he => ?_, fun b hb hstep hnone => ?_, ?_⟩
    · rw [hmore]
      simp [State.recoded]
    · obtain ⟨more', hmore', hown⟩ := hs.seg h
      have hnil : more' = [] := by
        refine List.eq_nil_iff_forall_not_mem.mpr fun e he => hh ?_
        obtain ⟨h1, h2⟩ := hown e he
        rw [← h1, hserves e.bay h2]
      simp [hmore', hnil, State.recoded, State.seg_modSeg_ne _ hh]
    · simpa [State.recoded] using hs.bay b
    · refine ⟨e.recode, ?_, e.recode_eq⟩
      rw [hmore]
      exact List.mem_append_left _ (by simpa [State.recoded] using ⟨e, he, rfl⟩)
    · have hident := hs.ident b hb (by simpa [State.recoded] using hstep)
        (State.busEntry_recoded (by simpa using hnone) g)
      simpa [State.recoded] using hident
    · rw [hs.eq]
      apply State.eq_of_fields <;> simp [State.recoded]

end Sys2Proof.Machine

/-! Replies and reply windows on the bay bus, and the timers of a split write (R16, R28, R29, R38 to R43). -/

namespace Sys2Proof.Machine

variable {s t u : State} {b : BayId} {k : EntryClass}

/-! ## A reply as it is judged (R28, R29, R180) -/

theorem headByte_toNat {slot kind : Nat} (hs : slot < 16) (hk : kind < 16) :
    (u8 (slot * 16 + kind)).toNat = slot * 16 + kind := by
  rw [u8, BitVec.toNat_ofNat]
  exact Nat.mod_eq_of_lt (by omega)

theorem Exchange.matchesReply_reply {x : Exchange} {kind : Nat} (hs : x.slot < 16) (hk : kind < 16) (data : List Byte) :
    x.matchesReply (x.reply kind data) = true := by
  simp only [Exchange.reply, List.cons_append, Exchange.matchesReply, headByte_toNat hs hk]
  have hdiv : (x.slot * 16 + kind) / 16 = x.slot := by omega
  simp [hdiv]

/-- The result that a well-formed reply of a kind carries (R29). -/
def ReplyKind.attempt (data : List Byte) : ReplyKind → Attempt
  | .done => .success data
  | .accepted => .accepted
  | .refused => .refused
  | .failed => .failed
  | .busy => .busy

/-- A reply of the right length is judged by its kind. -/
theorem judgeReply_reply {x : Exchange} {kind : Nat} {r : ReplyKind} {op : BusOp} {poll : Bool} {data : List Byte}
    (hs : x.slot < 16) (hk : kind < 16) (hr : ReplyKind.ofCode kind = some r)
    (hlen : replyLength op poll r = some (data.length + 4)) :
    judgeReply op poll (x.reply kind data) = r.attempt data := by
  have hkind : replyKindOf (x.reply kind data) = some r := by
    have hmod : (x.slot * 16 + kind) % 16 = kind := by omega
    simp [replyKindOf, Exchange.reply, byteAt, headByte_toNat hs hk, hmod, hr]
  have hlength : (x.reply kind data).length = data.length + 4 := by simp [Exchange.reply]
  have htake : (x.reply kind data).take (data.length + 4) = x.reply kind data := List.take_of_length_le (by omega)
  have hbody : (x.reply kind data).take (data.length + 4 - 1) = x.code :: u8 (x.slot * 16 + kind) :: x.seq :: data := by
    simp [Exchange.reply]
  have hcrc : byteAt (x.reply kind data) (data.length + 4 - 1) =
      crc8 (x.code :: u8 (x.slot * 16 + kind) :: x.seq :: data) := by
    simp [Exchange.reply, byteAt]
  have hdata : slice (x.reply kind data) 3 data.length = data := by simp [Exchange.reply, slice]
  simp only [judgeReply, hkind, hlen, htake, hlength, hbody, hcrc, ne_eq, not_true, if_false]
  cases r <;> simp [ReplyKind.attempt, hdata]

/-- Every reply has four bytes at least (R180). -/
theorem four_le_replyLength {op : BusOp} {poll : Bool} {r : ReplyKind} {n : Nat} (h : replyLength op poll r = some n) :
    4 ≤ n := by
  unfold replyLength at h
  repeat' split at h
  all_goals cases h
  all_goals omega

/-- A reply of fewer than four bytes is malformed. -/
theorem judgeReply_short {op : BusOp} {poll : Bool} {bytes : List Byte} (h : bytes.length < 4) :
    judgeReply op poll bytes = .malformed := by
  unfold judgeReply
  split
  · rfl
  · split
    · rfl
    · next hn =>
      have hfour := four_le_replyLength hn
      dsimp only
      rw [if_pos]
      rw [List.length_take]
      omega

/-! ## The exchange ends (R28) -/

/-- The state as an exchange of bay `b` ends at a time. -/
def State.ended (s : State) (b : BayId) (at' : Nat) : State := (s.advanceTo at').endExchange (baySeg b)

theorem State.seg_ended (b : BayId) (at' : Nat) :
    (s.ended b at').seg (baySeg b) = { s.seg (baySeg b) with exchange := none } := by
  simp [State.ended, State.endExchange]
theorem State.seg_ended_ne {g : Segment} (h : g ≠ baySeg b) (at' : Nat) : (s.ended b at').seg g = s.seg g := by
  simp [State.ended, State.endExchange, State.seg_modSeg_ne _ h]
@[simp] theorem State.busEntry_ended (b : BayId) (at' : Nat) (k : EntryClass) :
    (s.ended b at').busEntry b k = s.busEntry b k := by simp [State.busEntry, State.seg_ended]
@[simp] theorem State.bay_ended (b x : BayId) (at' : Nat) : (s.ended b at').bay x = s.bay x := by
  simp [State.ended, State.endExchange]
@[simp] theorem State.chan_ended (b : BayId) (c : ChanId) (at' : Nat) : (s.ended b at').chan c = s.chan c := by
  simp [State.ended, State.endExchange]
@[simp] theorem State.ended_now (b : BayId) (at' : Nat) : (s.ended b at').now = max s.now at' := by
  simp [State.ended, State.endExchange]
@[simp] theorem State.ended_chans (b : BayId) (at' : Nat) : (s.ended b at').chans = s.chans := by
  simp [State.ended, State.endExchange]
@[simp] theorem State.ended_meters (b : BayId) (at' : Nat) : (s.ended b at').meters = s.meters := by
  simp [State.ended, State.endExchange]
@[simp] theorem State.ended_store (b : BayId) (at' : Nat) : (s.ended b at').store = s.store := by
  simp [State.ended, State.endExchange]
@[simp] theorem State.ended_challenge (b : BayId) (at' : Nat) : (s.ended b at').challenge = s.challenge := by
  simp [State.ended, State.endExchange]
@[simp] theorem State.ended_hist (b : BayId) (at' : Nat) : (s.ended b at').hist = s.hist := by
  simp [State.ended, State.endExchange]
@[simp] theorem State.ended_link (b : BayId) (at' : Nat) : (s.ended b at').link = s.link := by
  simp [State.ended, State.endExchange]

@[simp] theorem State.busEntry_conclude (b : BayId) (k : EntryClass) : s.conclude.busEntry b k = s.busEntry b k := by
  simp [State.busEntry]

/-- A reply to an open exchange of a bay is acted on; the counter that is not EXHAUSTED asks for no sweep. -/
theorem exec_busReplyTaken {poll : Bool} {x : Exchange} {w kind : Nat} {e : BusEntry} {r : ReplyKind}
    {data : List Byte} (hx : (s.seg (baySeg b)).exchange = some x) (hw : x.window = some w)
    (hwhat : x.what = .entry b k poll) (habs : x.abandoned = false) (hslot : x.slot < 16)
    (hbus : s.busEntry b k = some e) (hblock : s.challenge.block ≠ .exhausted) (hk : kind < 16)
    (hr : ReplyKind.ofCode kind = some r) (hlen : replyLength e.op poll r = some (data.length + 4)) :
    exec (.busReplyTaken (baySeg b) (x.reply kind data)) s =
      .next ((s.ended b (w + 32 * (data.length + 4))).actOn e poll x.nonce (r.attempt data)).conclude := by
  have hlength : (x.reply kind data).length = data.length + 4 := by simp [Exchange.reply]
  have hopen : s.openExchange (baySeg b) = some (x, w) := by simp [State.openExchange, hx, hw]
  have htake : (s.advanceTo (w + 32 * (data.length + 4))).takeReply (baySeg b) x (x.reply kind data) =
      (s.ended b (w + 32 * (data.length + 4))).actOn e poll x.nonce (r.attempt data) := by
    have he : ((s.advanceTo (w + 32 * (data.length + 4))).endExchange (baySeg b)).busEntry b k = some e :=
      (State.busEntry_ended b _ k).trans hbus
    simp only [State.takeReply, habs, hwhat, he, judgeReply_reply hslot hk hr hlen]
    rfl
  have hin : Within (s.ended b (w + 32 * (data.length + 4)))
      ((s.ended b (w + 32 * (data.length + 4))).actOn e poll x.nonce (r.attempt data)) :=
    (Within.refl _).actOn _ _ _ _
  simp only [exec, execBusReplyTaken, hopen, Exchange.matchesReply_reply hslot hk, if_true, Config.busByteUs, hlength,
    htake]
  rw [State.sweepExhausted_of_ne (by rw [hin.challenge]; simpa using hblock)]

/-- A reply that stops short of four bytes is a failed attempt (R28, R40). -/
theorem exec_busReplyGapTimeout_short {poll : Bool} {x : Exchange} {w : Nat} {e : BusEntry} {bytes : List Byte}
    (hx : (s.seg (baySeg b)).exchange = some x) (hw : x.window = some w)
    (hwhat : x.what = .entry b k poll) (habs : x.abandoned = false)
    (hbus : s.busEntry b k = some e) (hblock : s.challenge.block ≠ .exhausted) (hm : x.matchesReply bytes = true)
    (hlen : bytes.length < 4) :
    exec (.busReplyGapTimeout (baySeg b) bytes) s =
      .next ((s.ended b (w + 32 * bytes.length + 200)).failedAttempt e poll .malformed).conclude := by
  have hopen : s.openExchange (baySeg b) = some (x, w) := by simp [State.openExchange, hx, hw]
  have htake : (s.advanceTo (w + 32 * bytes.length + 200)).takeReply (baySeg b) x bytes =
      (s.ended b (w + 32 * bytes.length + 200)).failedAttempt e poll .malformed := by
    have he : ((s.advanceTo (w + 32 * bytes.length + 200)).endExchange (baySeg b)).busEntry b k = some e :=
      (State.busEntry_ended b _ k).trans hbus
    simp only [State.takeReply, habs, hwhat, he, judgeReply_short hlen]
    rfl
  have hin : Within (s.ended b (w + 32 * bytes.length + 200))
      ((s.ended b (w + 32 * bytes.length + 200)).failedAttempt e poll .malformed) := (Within.refl _).failedAttempt _ _ _
  simp only [exec, execBusReplyGapTimeout, hopen, hm, if_true, Config.busByteUs, Config.replyGapUs, htake]
  rw [State.sweepExhausted_of_ne (by rw [hin.challenge]; simpa using hblock)]

/-- A reply window that expires is a failed attempt (R28, R40). -/
theorem exec_busReplyWindowTimeout {poll : Bool} {x : Exchange} {w : Nat} {e : BusEntry}
    (hx : (s.seg (baySeg b)).exchange = some x) (hw : x.window = some w)
    (hwhat : x.what = .entry b k poll) (habs : x.abandoned = false)
    (hbus : s.busEntry b k = some e) (hblock : s.challenge.block ≠ .exhausted) :
    exec (.busReplyWindowTimeout (baySeg b)) s =
      .next ((s.ended b (w + 2000)).failedAttempt e poll .noReply).conclude := by
  have hopen : s.openExchange (baySeg b) = some (x, w) := by simp [State.openExchange, hx, hw]
  have htake : (s.advanceTo (w + 2000)).noReplyTaken (baySeg b) x =
      (s.ended b (w + 2000)).failedAttempt e poll .noReply := by
    have he : ((s.advanceTo (w + 2000)).endExchange (baySeg b)).busEntry b k = some e :=
      (State.busEntry_ended b _ k).trans hbus
    simp only [State.noReplyTaken, habs, hwhat, he]
    rfl
  have hin : Within (s.ended b (w + 2000)) ((s.ended b (w + 2000)).failedAttempt e poll .noReply) :=
    (Within.refl _).failedAttempt _ _ _
  simp only [exec, execBusReplyWindowTimeout, hopen, Config.replyWindowUs, htake]
  rw [State.sweepExhausted_of_ne (by rw [hin.challenge]; simpa using hblock)]

/-! ## ACCEPTED, and a READ BLOCK's DONE (R29, R30, R38, R42, R164) -/

/-- The bay's record after an ACCEPTED (R60, R90). -/
theorem State.bay_accepted {e : BusEntry} (x : BayId) : (s.accepted e).bay x = { s.bay x with
    advanceSinceIdent := (s.bay x).advanceSinceIdent ||
      (decide (x = e.bay ∧ e.op = .advance) && (s.bay x).observed.isSome) } := by
  unfold State.accepted
  dsimp only
  by_cases hop : e.op = .advance
  · rw [if_pos hop]
    by_cases hx : x = e.bay
    · subst hx; simp [hop]
    · simp [State.bay_modBay_ne _ hx, hx]
  · simp [hop]

/-- The segments after an ACCEPTED: the split write begins (R38). -/
theorem State.seg_accepted {e : BusEntry} (g : Segment) :
    (s.accepted e).seg g = (s.modEntry e.bay e.cls (BusEntry.accept s.now (s.busyUs e.bay))).seg g := by
  unfold State.accepted
  dsimp only
  split <;> simp

theorem State.accepted_eq {e : BusEntry} : s.accepted e = { s with
    bays := (s.accepted e).bays, segL := (s.accepted e).segL, segR := (s.accepted e).segR } := by
  unfold State.accepted
  dsimp only
  split <;> apply State.eq_of_fields <;> simp [State.modEntry]

theorem BusEntry.keepsOwner_accept (now busy : Nat) : KeepsOwner (BusEntry.accept now busy) := fun _ => ⟨rfl, rfl⟩

/-- Settles O27. -/
theorem acceptedBeginsTheSplitWrite : Obligations.AcceptedBeginsTheSplitWrite := by
  intro s b k x w e i hx hw hwhat habs hslot hbus hi hblock hop
  have hlen : replyLength e.op false .accepted = some (([] : List Byte).length + 4) := by
    rcases hop with h | h | ⟨n, d, h⟩ <;> rw [h] <;> rfl
  have hexec := exec_busReplyTaken (kind := 8) (r := .accepted) hx hw hwhat habs hslot hbus hblock (by decide) rfl hlen
  obtain ⟨rfl, rfl⟩ := State.isFor_of_busEntry hbus
  have hbusy : (s.ended e.bay (w + 128)).busyUs e.bay = i.writeBusy.toNat * 1000 := by simp [State.busyUs, hi]
  have hentry := State.busEntry_modEntry (s := s.ended e.bay (w + 128))
    (BusEntry.keepsOwner_accept (max s.now (w + 128)) (i.writeBusy.toNat * 1000)) e.bay e.cls
  rw [State.busEntry_ended, hbus] at hentry
  have heq := State.accepted_eq (s := s.ended e.bay (w + 128)) (e := e)
  refine ⟨_, hexec, ⟨?_, ?_, ?_⟩, ?_, fun y hy => ?_, ?_, ?_, ?_, ?_, fun g hg => ?_⟩
  · rw [State.conclude_now]
    exact (congrArg State.now heq).trans (State.ended_now _ _)
  · rw [State.seg_conclude]
    refine (congrArg SegCtl.exchange (State.seg_accepted _)).trans ?_
    rw [State.seg_modEntry, State.seg_ended]
  · rw [State.busEntry_conclude, State.busEntry_eq_find]
    refine (congrArg (fun c => c.queue.find? (fun y => y.isFor e.bay e.cls)) (State.seg_accepted _)).trans ?_
    simp only [List.length_nil, Nat.zero_add, Nat.reduceMul, hbusy, State.ended_now]
    exact hentry
  · rw [State.bay_conclude]
    refine (State.bay_accepted _).trans ?_
    simp
  · rw [State.bay_conclude]
    refine (State.bay_accepted _).trans ?_
    simp [hy]
  · rw [State.conclude_chans]
    exact (congrArg State.chans heq).trans (State.ended_chans _ _)
  · rw [State.conclude_store]
    exact (congrArg State.store heq).trans (State.ended_store _ _)
  · rw [State.conclude_challenge]
    exact (congrArg State.challenge heq).trans (State.ended_challenge _ _)
  · rw [State.conclude_hist_table]
    exact (congrArg (fun t => t.hist.table) heq).trans (congrArg HistoryUnit.table (State.ended_hist _ _))
  · rw [State.seg_conclude]
    refine (State.seg_accepted _).trans ?_
    rw [State.seg_modEntry_ne hg, State.seg_ended_ne hg]

/-! ## The end of a transaction (R42) -/

theorem State.seg_dequeue (b : BayId) (k : EntryClass) : (s.dequeue b k).seg (baySeg b) = { s.seg (baySeg b) with
    queue := (s.seg (baySeg b)).queue.filter (fun e => !e.isFor b k) } := by simp [State.dequeue]
@[simp] theorem State.bay_dequeue (b x : BayId) (k : EntryClass) : (s.dequeue b k).bay x = s.bay x := by
  simp [State.dequeue]
@[simp] theorem State.chan_dequeue (b : BayId) (c : ChanId) (k : EntryClass) : (s.dequeue b k).chan c = s.chan c := by
  simp [State.dequeue]

/-- An entry taken out of its queue is there no longer (R42). -/
theorem State.busEntry_dequeue (b : BayId) (k : EntryClass) : (s.dequeue b k).busEntry b k = none := by
  rw [State.busEntry_eq_find, State.seg_dequeue, List.find?_eq_none]
  simp

theorem State.busEntry_dequeue_ne {l : EntryClass} (h : l ≠ k) : (s.dequeue b k).busEntry b l = s.busEntry b l := by
  rw [State.busEntry_eq_find, State.busEntry_eq_find, State.seg_dequeue, List.find?_filter]
  congr 1
  funext e
  by_cases hl : e.isFor b l = true
  · have hno : e.isFor b k = false := by
      rw [Bool.eq_false_iff, Ne, BusEntry.isFor_iff, (BusEntry.isFor_iff.mp hl).2]
      exact fun x => h x.2
    simp [hl, hno]
  · simp [hl]

/-- The state as a transaction leaves its queue with its outcome (R42). -/
def State.takenOut (s : State) (e : BusEntry) (last : BusOutcome) : State :=
  (s.dequeue e.bay e.cls).noteOutcome e.bay last

theorem State.bay_takenOut (e : BusEntry) (last : BusOutcome) :
    (s.takenOut e last).bay e.bay = { s.bay e.bay with lastOutcome := some last } := by
  simp [State.takenOut, State.noteOutcome]
theorem State.bay_takenOut_ne {e : BusEntry} {x : BayId} (h : x ≠ e.bay) (last : BusOutcome) :
    (s.takenOut e last).bay x = s.bay x := by
  simp [State.takenOut, State.noteOutcome, State.bay_modBay_ne _ h]
theorem State.busEntry_takenOut (e : BusEntry) (last : BusOutcome) : (s.takenOut e last).busEntry e.bay e.cls = none := by
  simp [State.takenOut, State.noteOutcome, State.busEntry_dequeue]
@[simp] theorem State.takenOut_link (e : BusEntry) (last : BusOutcome) : (s.takenOut e last).link = s.link := by
  simp [State.takenOut, State.noteOutcome, State.dequeue]
@[simp] theorem State.takenOut_chans (e : BusEntry) (last : BusOutcome) : (s.takenOut e last).chans = s.chans := by
  simp [State.takenOut, State.noteOutcome, State.dequeue]
@[simp] theorem State.takenOut_store (e : BusEntry) (last : BusOutcome) : (s.takenOut e last).store = s.store := by
  simp [State.takenOut, State.noteOutcome, State.dequeue]
@[simp] theorem State.takenOut_hist (e : BusEntry) (last : BusOutcome) : (s.takenOut e last).hist = s.hist := by
  simp [State.takenOut, State.noteOutcome, State.dequeue]
@[simp] theorem State.takenOut_now (e : BusEntry) (last : BusOutcome) : (s.takenOut e last).now = s.now := by
  simp [State.takenOut, State.noteOutcome, State.dequeue]
theorem State.seg_takenOut (e : BusEntry) (last : BusOutcome) (g : Segment) :
    (s.takenOut e last).seg g = (s.dequeue e.bay e.cls).seg g := by
  simp [State.takenOut, State.noteOutcome]

/-- A SERVICE transaction ends: the report answers its request. -/
theorem State.endTransaction_service {e : BusEntry} {o last : BusOutcome} {n : Nonce} {d : List Byte}
    (hcls : e.cls = .service) (hop : (∃ i, e.op = .readBlock i) ∨ ∃ i x, e.op = .writeBlock i x) :
    s.endTransaction e o last n d = (s.takenOut e last).reportService e.bay o d := by
  unfold State.endTransaction State.takenOut
  rcases hop with ⟨i, h⟩ | ⟨i, x, h⟩ <;> simp [h, hcls, State.report]

@[simp] theorem State.busEntry_finishRequest (r : Result) (fs : List Byte) (z : Bool) (b : BayId) (k : EntryClass) :
    (s.finishRequest r fs z).busEntry b k = s.busEntry b k := by simp [State.busEntry]

/-- Settles O28. -/
theorem readBlockAnswersTheCartRead : Obligations.ReadBlockAnswersTheCartRead := by
  intro s b n x w e q rest data hx hw hwhat habs hslot hbus hb hcls hop hdata hwait hq hblock
  subst hb
  have hlen : replyLength e.op false .done = some (data.length + 4) := by rw [hop, hdata]; rfl
  have hexec := exec_busReplyTaken (kind := 9) (r := .done) hx hw hwhat habs hslot hbus hblock (by decide) rfl hlen
  have hact (at' : Nat) : (s.ended e.bay at').actOn e false x.nonce (.success data) =
      ((s.ended e.bay at').takenOut e .ok).finishRequest .ok (u8 e.bay.val :: u8 n :: data) false := by
    rw [State.actOn, State.done, if_neg (by simp [hop]), State.endTransaction_service hcls (.inl ⟨n, hop⟩)]
    simp [State.reportService, State.serviceEnd, hwait]
  rw [ReplyKind.attempt, hact] at hexec
  refine ⟨_, hexec, State.finishRequest_answered_conclude_of_link (by simp) hq .ok _ false, ?_, ?_, ?_, fun y hy => ?_, ?_,
    ?_, ?_⟩
  · rw [State.busEntry_conclude, State.busEntry_finishRequest, ← hcls]
    exact State.busEntry_takenOut _ _
  · simp [State.seg_takenOut, State.seg_dequeue, State.seg_ended]
  · simp [State.bay_takenOut]
  · simp [State.bay_takenOut_ne hy]
  · simp
  · simp
  · simp

end Sys2Proof.Machine

/-! Failed attempts, the timers of a split write, and a run that loses the bay (R16, R38 to R43). -/

namespace Sys2Proof.Machine

variable {s t u : State} {b : BayId} {k : EntryClass}

/-! ## Counters (R40, R166) -/

theorem Counter.bump_eq_after (c : Counter) : c.bump max8 half8 = c.after := by
  have hlifts : c.lifts max8 half8 = (c.value == 127 && !c.half) := by
    simp only [Counter.lifts, max8, half8]
    by_cases h : c.value = 127
    · simp [h]
    · have hne : (c.value == 127) = false := by simpa using h
      simp [hne]
  unfold Counter.bump Counter.after
  rw [hlifts]
  cases c.half <;> simp [max8]

theorem State.raiseIf_eq (l : Bool) (sc : Scope) : s.raiseIf l sc = { s with link := (s.raiseIf l sc).link } := by
  unfold State.raiseIf
  split
  · exact State.raise_eq _
  · rfl

theorem State.raiseIf_bays (l : Bool) (sc : Scope) : (s.raiseIf l sc).bays = s.bays := by
  unfold State.raiseIf
  split <;> simp

/-- Counting a failed attempt changes the bay's counter and raises its notice (R23, R40). -/
theorem State.countFailure_eq (b : BayId) (f : FailKind) : s.countFailure b f = { s with
    bays := (s.countFailure b f).bays, link := (s.countFailure b f).link } := by
  cases f with
  | noReply =>
    simp only [State.countFailure, State.bumpNoReply, State.raiseIf_bays]
    exact State.raiseIf_eq _ _
  | malformed =>
    simp only [State.countFailure, State.bumpMalformed, State.raiseIf_bays]
    exact State.raiseIf_eq _ _
  | busy => rfl

@[simp] theorem State.bay_raiseIf (l : Bool) (sc : Scope) (x : BayId) : (s.raiseIf l sc).bay x = s.bay x := by
  unfold State.raiseIf
  split <;> simp

theorem State.bay_bumpNoReply (b : BayId) : (s.bumpNoReply b).bay b = { s.bay b with
    noReplyCtr := (s.bay b).noReplyCtr.after } := by
  simp [State.bumpNoReply, Counter.bump_eq_after]
theorem State.bay_bumpMalformed (b : BayId) : (s.bumpMalformed b).bay b = { s.bay b with
    malformedCtr := (s.bay b).malformedCtr.after } := by
  simp [State.bumpMalformed, Counter.bump_eq_after]

theorem State.bay_countFailure_ne {b x : BayId} (h : x ≠ b) (f : FailKind) : (s.countFailure b f).bay x = s.bay x := by
  cases f <;> simp [State.countFailure, State.bumpNoReply, State.bumpMalformed, State.bay_modBay_ne _ h]

@[simp] theorem State.seg_countFailure (b : BayId) (f : FailKind) (g : Segment) :
    (s.countFailure b f).seg g = s.seg g := by
  rw [State.countFailure_eq]
  cases g <;> rfl
@[simp] theorem State.busEntry_countFailure (b c : BayId) (f : FailKind) (k : EntryClass) :
    (s.countFailure b f).busEntry c k = s.busEntry c k := by simp [State.busEntry]

/-! ## A failed attempt that does not exhaust its run (R40, R41) -/

theorem BusEntry.keepsOwner_failed (poll : Bool) : KeepsOwner (BusEntry.failed poll) := by
  intro e
  unfold BusEntry.failed
  split <;> exact ⟨rfl, rfl⟩

/-- Before the third failure, and at the third of a run that is not re-coded, the run goes on. -/
theorem State.failedAttempt_goes_on {e : BusEntry} {poll : Bool} {f : FailKind}
    (hrun : e.attempts < 2 ∨ (e.attempts = 2 ∧ e.recoded = false)) (hpast : e.pastDeadline = false) :
    s.failedAttempt e poll f =
      (let s2 := (s.countFailure e.bay f).modEntry e.bay e.cls (BusEntry.failed poll)
       if e.attempts = 2 then s2.askSetCode (baySeg e.bay) poll else s2) := by
  have hex : e.exhausts = false := by
    rcases hrun with h | ⟨h, hr⟩
    · have h3 : ¬ 3 ≤ e.attempts := by omega
      have h2 : e.attempts ≠ 2 := by omega
      simp [BusEntry.exhausts, h3, h2]
    · simp [BusEntry.exhausts, h, hr]
  simp [State.failedAttempt, hpast, hex]

@[simp] theorem State.bay_askSetCode (g : Segment) (p : Bool) (x : BayId) : (s.askSetCode g p).bay x = s.bay x := by
  simp [State.askSetCode]

theorem State.seg_askSetCode (g : Segment) (p : Bool) :
    ((s.askSetCode g p).seg g).queue = (s.seg g).queue ∧ ((s.askSetCode g p).seg g).exchange = (s.seg g).exchange ∧
      ((s.askSetCode g p).seg g).setCode.isSome = true := by simp [State.askSetCode]

/-- What a failed attempt of an entry that runs on changes (R40, R41). -/
theorem State.failedAttempt_spec {e : BusEntry} {poll : Bool} {f : FailKind} (hbus : s.busEntry e.bay e.cls = some e)
    (hx : (s.seg (baySeg e.bay)).exchange = none)
    (hrun : e.attempts < 2 ∨ (e.attempts = 2 ∧ e.recoded = false)) (hpast : e.pastDeadline = false) :
    (∀ x, (s.failedAttempt e poll f).bay x = (s.countFailure e.bay f).bay x) ∧
      (s.failedAttempt e poll f).busEntry e.bay e.cls = some (e.failed poll) ∧
      ((s.failedAttempt e poll f).seg (baySeg e.bay)).exchange = none ∧
      (e.attempts < 2 → ((s.failedAttempt e poll f).seg (baySeg e.bay)).setCode = (s.seg (baySeg e.bay)).setCode) ∧
      (e.attempts = 2 → ((s.failedAttempt e poll f).seg (baySeg e.bay)).setCode.isSome = true) ∧
      (s.failedAttempt e poll f).chans = s.chans ∧ (s.failedAttempt e poll f).store = s.store ∧
      (s.failedAttempt e poll f).hist = s.hist ∧ (s.failedAttempt e poll f).now = s.now := by
  have hentry := State.busEntry_modEntry (s := s.countFailure e.bay f) (BusEntry.keepsOwner_failed poll) e.bay e.cls
  rw [State.busEntry_countFailure, hbus] at hentry
  have heq := State.countFailure_eq (s := s) e.bay f
  rw [State.failedAttempt_goes_on hrun hpast]
  dsimp only
  have hframe : (s.countFailure e.bay f).chans = s.chans ∧ (s.countFailure e.bay f).store = s.store ∧
      (s.countFailure e.bay f).hist = s.hist ∧ (s.countFailure e.bay f).now = s.now := by
    rw [heq]; exact ⟨rfl, rfl, rfl, rfl⟩
  obtain ⟨hc, hst, hh, hn⟩ := hframe
  by_cases h2 : e.attempts = 2
  · obtain ⟨hq, hxa, hset⟩ := State.seg_askSetCode (baySeg e.bay) poll
      (s := (s.countFailure e.bay f).modEntry e.bay e.cls (BusEntry.failed poll))
    rw [if_pos h2]
    refine ⟨fun x => by simp, ?_, ?_, fun h => by omega, fun _ => hset, ?_⟩
    · rw [State.busEntry_eq_find, hq]
      exact hentry
    · rw [hxa, State.seg_modEntry, State.seg_countFailure, hx]
    · simp [State.askSetCode, State.modEntry, hc, hst, hh, hn]
  · rw [if_neg h2]
    refine ⟨fun x => by simp, hentry, ?_, fun _ => ?_, fun h => absurd h h2, ?_⟩
    · rw [State.seg_modEntry, State.seg_countFailure, hx]
    · rw [State.seg_modEntry, State.seg_countFailure]
    · simp [State.modEntry, hc, hst, hh, hn]

theorem BusEntry.failed_of_lt {e : BusEntry} (h : e.attempts < 2) (poll : Bool) : e.failed poll = { e with
    attempts := e.attempts + 1, state := if poll = true then .pollDue else .waiting } := by
  rw [BusEntry.failed, if_neg (by omega)]

/-- A reply of three bytes carries the exchange's code, slot and sequence byte. -/
theorem Exchange.matchesReply_cut {x : Exchange} {kind : Byte} (hs : x.slot < 16) (hk : kind.toNat < 16) :
    x.matchesReply [x.code, u8 (x.slot * 16) + kind, x.seq] = true := by
  have hhead : (u8 (x.slot * 16) + kind).toNat = x.slot * 16 + kind.toNat := by
    rw [u8, BitVec.toNat_add, BitVec.toNat_ofNat]
    omega
  have hdiv : (x.slot * 16 + kind.toNat) / 16 = x.slot := by omega
  simp [Exchange.matchesReply, hhead, hdiv]

/-- Settles O33: a cut reply, and a window that expires. -/
theorem failedAttemptsCount : Obligations.FailedAttemptsCount := by
  refine ⟨fun s b k poll x w e kind hx hw hwhat habs hslot hkind hbus hb hcls hatt hpast hblock => ?_,
    fun s b k poll x w e hx hw hwhat habs hbus hb hcls hatt hpast hblock => ?_⟩
  · subst hb hcls
    have hexec := exec_busReplyGapTimeout_short hx hw hwhat habs hbus hblock
      (Exchange.matchesReply_cut (kind := kind) hslot hkind) (by simp)
    obtain ⟨h1, h2, h3, _, _, h6, h7, h8, _⟩ := State.failedAttempt_spec (poll := poll) (f := .malformed)
      (s := s.ended e.bay (w + 32 * [x.code, u8 (x.slot * 16) + kind, x.seq].length + 200)) (e := e)
      (by simpa using hbus) (by rw [State.seg_ended]) (.inl hatt) hpast
    refine ⟨_, hexec, ?_, ?_, ?_, fun y hy => ?_, ?_, ?_, ?_⟩
    · rw [State.seg_conclude, h3]
    · rw [State.busEntry_conclude, h2, BusEntry.failed_of_lt hatt]
    · rw [State.bay_conclude, h1]
      exact (State.bay_bumpMalformed _).trans (by simp [Counter.after])
    · rw [State.bay_conclude, h1, State.bay_countFailure_ne hy, State.bay_ended]
    · rw [State.conclude_chans, h6, State.ended_chans]
    · rw [State.conclude_store, h7, State.ended_store]
    · rw [State.conclude_hist_table, h8, State.ended_hist]
  · subst hb hcls
    obtain ⟨h1, h2, h3, h4, h5, h6, h7, h8, h9⟩ := State.failedAttempt_spec (poll := poll) (f := .noReply)
      (s := s.ended e.bay (w + 2000)) (e := e) (by simpa using hbus) (by rw [State.seg_ended]) hatt hpast
    refine ⟨_, exec_busReplyWindowTimeout hx hw hwhat habs hbus hblock, ?_, ?_, fun hlt => ⟨?_, ?_⟩, fun h2' => ⟨?_, ?_⟩, ?_,
      fun y hy => ?_, ?_, ?_, ?_⟩
    · rw [State.conclude_now, h9, State.ended_now]
    · rw [State.seg_conclude, h3]
    · rw [State.busEntry_conclude, h2, BusEntry.failed_of_lt hlt]
    · rw [State.seg_conclude, h4 hlt, State.seg_ended]
    · rw [State.busEntry_conclude, h2, BusEntry.failed, if_pos h2']
    · rw [State.seg_conclude, h5 h2']
    · rw [State.bay_conclude, h1]
      exact (State.bay_bumpNoReply _).trans (by simp [Counter.after])
    · rw [State.bay_conclude, h1, State.bay_countFailure_ne hy, State.bay_ended]
    · rw [State.conclude_chans, h6, State.ended_chans]
    · rw [State.conclude_store, h7, State.ended_store]
    · rw [State.conclude_hist_table, h8, State.ended_hist]

/-! ## The timers of a split write (R38, R39) -/

theorem exec_splitWriteDeadline {e : BusEntry} {w : SplitWrite} (he : s.splitEntry b = some e) (hw : e.split = some w)
    (hpast : w.deadlinePassed = false) :
    exec (.splitWriteDeadline b) s =
      if e.state = .onBus then .next ((s.advanceTo w.deadline).modEntry b e.cls BusEntry.passDeadline)
      else .next ((s.advanceTo w.deadline).endTransaction e .busyTimeout .busyTimeout 0 []).conclude := by
  simp [exec, execSplitWriteDeadline, he, hw, hpast]

theorem State.modEntry_eq (b : BayId) (k : EntryClass) (f : BusEntry → BusEntry) : s.modEntry b k f = { s with
    segL := (s.modEntry b k f).segL, segR := (s.modEntry b k f).segR } := by
  apply State.eq_of_fields <;> simp [State.modEntry]

/-- Settles O35. -/
theorem splitWriteTimersAct : Obligations.SplitWriteTimersAct := by
  intro s b e w he hb hw
  refine ⟨fun at' hat => ?_, fun hpast hst => ?_, fun q rest more n d hpast hst hcls hop hwait hq => ?_⟩
  · refine ⟨(s.advanceTo at').modEntry b e.cls BusEntry.pollNow, ?_, ?_, ?_, fun g hg => ?_⟩
    · simp [exec, execPollDue, he, hw, hat]
    · rw [State.seg_modEntry, State.seg_advanceTo]
      simp only [BusEntry.isFor_iff]
      rfl
    · rw [State.modEntry_eq]
      rfl
    · rw [State.seg_modEntry_ne hg, State.seg_advanceTo]
  · refine ⟨_, (exec_splitWriteDeadline he hw hpast).trans (if_pos hst), ?_, ?_⟩
    · rw [State.seg_modEntry, State.seg_advanceTo]
      simp only [BusEntry.isFor_iff]
      rfl
    · rw [State.modEntry_eq]
      rfl
  · subst hb
    have hend : (s.advanceTo w.deadline).endTransaction e .busyTimeout .busyTimeout 0 [] =
        ((s.advanceTo w.deadline).takenOut e .busyTimeout).finishRequest .noReply [u8 e.bay.val, 0, 5] false := by
      rw [State.endTransaction_service hcls (.inr ⟨n, d, hop⟩)]
      simp [State.reportService, State.serviceEnd, hwait, cartResult, BusOutcome.code, u8]
    have hexec := (exec_splitWriteDeadline he hw hpast).trans (if_neg hst)
    rw [hend] at hexec
    refine ⟨_, hexec, State.finishRequest_answered_conclude_of_link (by simp) hq .noReply _ false, ?_, ?_, fun y hy => ?_,
      ?_, ?_, ?_⟩
    · rw [State.busEntry_conclude, State.busEntry_finishRequest, ← hcls]
      exact State.busEntry_takenOut _ _
    · simp [State.bay_takenOut]
    · simp [State.bay_takenOut_ne hy]
    · simp
    · simp
    · simp

/-! ## A move to LOST (R16, R43) -/

/-- What clearing the pending work of a bay leaves of its record: only figures in flight, the link-up, the last outcome
and the waiting requests may differ. -/
structure Cleared (v w : Bay) : Prop where
  eq : w = { v with
    owing := w.owing, inFlight := w.inFlight, lastOutcome := w.lastOutcome, step := w.step, observed := w.observed
    linkLost := w.linkLost, ctx := w.ctx, waitRechallenge := w.waitRechallenge, waitMark := w.waitMark }
  outcome : w.lastOutcome = v.lastOutcome ∨ w.lastOutcome = some .noReply
  lost : v.linkLost = true → w.linkLost = true

theorem Cleared.refl (v : Bay) : Cleared v v := ⟨rfl, .inl rfl, id⟩

theorem Cleared.trans {v w x : Bay} (h : Cleared v w) (k : Cleared w x) : Cleared v x where
  eq := by rw [k.eq, h.eq]
  outcome := by
    rcases k.outcome with e | e
    · exact e ▸ h.outcome
    · exact .inr e
  lost hv := k.lost (h.lost hv)

theorem Cleared.returnInFlight (v : Bay) : Cleared v v.returnInFlight := ⟨rfl, .inl rfl, id⟩
theorem Cleared.dropExchange (v : Bay) : Cleared v v.dropExchange := ⟨rfl, .inl rfl, id⟩
theorem Cleared.endLink (v : Bay) : Cleared v v.endLink := ⟨rfl, .inl rfl, fun _ => rfl⟩
theorem Cleared.noteOutcome (v : Bay) : Cleared v { v with lastOutcome := some .noReply } := ⟨rfl, .inr rfl, id⟩

/-- The pending METER work of a bay is cleared (R43). -/
theorem State.clearLostMeter_spec (b : BayId) :
    Cleared (s.bay b) ((s.clearLostMeter b).bay b) ∧
      s.clearLostMeter b = { s with
        bays := (s.clearLostMeter b).bays, segL := (s.clearLostMeter b).segL, segR := (s.clearLostMeter b).segR } ∧
      ∀ k, k ≠ .meter → (s.clearLostMeter b).busEntry b k = s.busEntry b k := by
  unfold State.clearLostMeter
  dsimp only
  repeat' split
  · exact ⟨.refl _, rfl, fun _ _ => rfl⟩
  · exact ⟨.refl _, rfl, fun _ _ => rfl⟩
  · exact ⟨by simpa [State.noteOutcome] using Cleared.noteOutcome _,
      by apply State.eq_of_fields <;> simp [State.noteOutcome, State.dequeue],
      fun k hk => by simp [State.noteOutcome, State.busEntry_dequeue_ne hk]⟩
  · exact ⟨by simpa [State.noteOutcome] using (Cleared.noteOutcome (s.bay b)).trans (.returnInFlight _),
      by apply State.eq_of_fields <;> simp [State.noteOutcome, State.dequeue],
      fun k hk => by simp [State.noteOutcome, State.busEntry_dequeue_ne hk]⟩
  · exact ⟨by simpa using Cleared.refl _, by apply State.eq_of_fields <;> simp [State.dequeue],
      fun k hk => State.busEntry_dequeue_ne hk⟩

/-- The pending SETUP work of a bay is cleared (R43). -/
theorem State.clearLostSetup_spec (b : BayId) :
    Cleared (s.bay b) ((s.clearLostSetup b).bay b) ∧
      s.clearLostSetup b = { s with
        bays := (s.clearLostSetup b).bays, segL := (s.clearLostSetup b).segL, segR := (s.clearLostSetup b).segR } ∧
      ∀ k, k ≠ .setup → (s.clearLostSetup b).busEntry b k = s.busEntry b k := by
  unfold State.clearLostSetup
  dsimp only
  repeat' split
  · exact ⟨.refl _, rfl, fun _ _ => rfl⟩
  · exact ⟨.refl _, rfl, fun _ _ => rfl⟩
  · exact ⟨by simpa [State.noteOutcome] using (Cleared.noteOutcome (s.bay b)).trans ((Cleared.endLink _).trans (.dropExchange _)),
      by apply State.eq_of_fields <;> simp [State.noteOutcome, State.dequeue],
      fun k hk => by simp [State.noteOutcome, State.busEntry_dequeue_ne hk]⟩
  · exact ⟨by simpa [State.noteOutcome] using (Cleared.noteOutcome (s.bay b)).trans (.dropExchange _),
      by apply State.eq_of_fields <;> simp [State.noteOutcome, State.dequeue],
      fun k hk => by simp [State.noteOutcome, State.busEntry_dequeue_ne hk]⟩
  · exact ⟨by simpa [State.noteOutcome] using Cleared.noteOutcome _,
      by apply State.eq_of_fields <;> simp [State.noteOutcome, State.dequeue],
      fun k hk => by simp [State.noteOutcome, State.busEntry_dequeue_ne hk]⟩

/-- With no SERVICE entry, clearing the pending work answers no request and changes the bay's own record and segment. -/
theorem State.clearLostWork_spec {b : BayId} (h : s.busEntry b .service = none) :
    Cleared (s.bay b) ((s.clearLostWork b).bay b) ∧
      s.clearLostWork b = { s with
        bays := (s.clearLostWork b).bays, segL := (s.clearLostWork b).segL, segR := (s.clearLostWork b).segR } ∧
      (s.clearLostWork b).busEntry b .service = none := by
  obtain ⟨h1, h2, h3⟩ := State.clearLostMeter_spec (s := s) b
  have hs : (s.clearLostMeter b).clearLostService b = s.clearLostMeter b := by
    simp [State.clearLostService, h3 .service (by decide), h]
  obtain ⟨k1, k2, k3⟩ := State.clearLostSetup_spec (s := s.clearLostMeter b) b
  unfold State.clearLostWork
  rw [hs]
  refine ⟨?_, ?_, ?_⟩
  · rw [State.bay_modBay]
    exact (h1.trans k1).trans ⟨rfl, .inl rfl, id⟩
  · calc ((s.clearLostMeter b).clearLostSetup b).modBay b _ = _ := by rw [k2]
      _ = _ := by rw [h2]; rfl
  · rw [State.busEntry_modBay, k3 .service (by decide), h3 .service (by decide), h]

/-- A bay goes to LOST: its record, and what stays (R16, R43). -/
theorem State.goLost_spec {b : BayId} (h : s.busEntry b .service = none) :
    Cleared ((s.bay b).endLink.toLost (s.now + 5000000)) ((s.goLost b).bay b) ∧
      NoteOnly s.link (s.goLost b).link ∧ Told (s.goLost b).link (.bay b) ∧ (s.goLost b).hist = s.hist ∧
      (s.goLost b).busEntry b .service = none ∧ (s.goLost b).store = s.store := by
  obtain ⟨h1, h2, h3⟩ := State.clearLostWork_spec (b := b)
    (s := s.modBay b (fun v => v.endLink.toLost (s.now + Config.relinkUs))) (by simpa using h)
  have hc : Chosen (bayChan b) ((s.modBay b (fun v => v.endLink.toLost (s.now + Config.relinkUs))).clearLostWork b)
      (s.goLost b) := ((Chosen.refl _ _).raise _).choose
  have hlink : ((s.modBay b (fun v => v.endLink.toLost (s.now + Config.relinkUs))).clearLostWork b).link = s.link :=
    (congrArg State.link h2 :)
  have hnote : NoteOnly s.link (s.goLost b).link := by
    have hn := hc.notes
    rwa [hlink] at hn
  rw [State.bay_modBay] at h1
  have hstate : (((s.modBay b (fun v => v.endLink.toLost (s.now + Config.relinkUs))).clearLostWork b).bay b).state = .lost :=
    (congrArg Bay.state h1.eq :)
  refine ⟨?_, hnote, (Chosen.refl _ _).choose.told _ (State.told_raise (.bay b)), ?_, ?_, ?_⟩
  · rw [State.goLost, State.bay_tellChannel_out (by simp [hstate]) (by simp [hstate]), State.bay_raise]
    exact h1
  · exact hc.hist.trans (congrArg State.hist h2 :)
  · rw [hc.busEntry, h3]
  · exact hc.store.trans (congrArg State.store h2 :)

theorem NoteOnly.raiseIf {a : LinkUnit} (h : NoteOnly a s.link) (l : Bool) (sc : Scope) :
    NoteOnly a (s.raiseIf l sc).link := by
  unfold State.raiseIf
  split
  · exact h.raise _
  · exact h

theorem State.noteOnly_countFailure (b : BayId) (f : FailKind) : NoteOnly s.link (s.countFailure b f).link := by
  cases f with
  | noReply => exact .raiseIf (.of_eq (by rfl)) _ _
  | malformed => exact .raiseIf (.of_eq (by rfl)) _ _
  | busy => exact .refl _

/-- A CART READ's transaction that ends NO_REPLY on a bay in service is answered, and the bay goes to LOST (R16, R164). -/
theorem State.reportService_noReply {n : Nat} (hwait : s.link.waiting = some (.cartRead b n))
    (hst : (s.bay b).state = .ready ∨ (s.bay b).state = .active) :
    s.reportService b .noReply [] = (s.finishRequest .noReply [] false).goLost b := by
  have hend : s.serviceEnd b .noReply [] = s.finishRequest .noReply [] false := by
    simp [State.serviceEnd, hwait, cartResult]
  rw [State.reportService, hend, if_pos rfl, State.handleNoReply, State.bay_finishRequest]
  rcases hst with h | h <;> rw [h]

/-- Settles O34: the attempt is counted, the request answered, and the bay goes to LOST. -/
theorem exhaustedRunLosesTheBay : Obligations.ExhaustedRunLosesTheBay := by
  intro s b n x w e q rest hx hw hwhat habs hbus hb hcls hop hrun hwait hq hst hstep hblock
  subst hb
  have hex : e.exhausts = true := by
    rcases hrun with h | ⟨h, hr⟩ <;> simp [BusEntry.exhausts, *]
  have hnote := State.noteOnly_countFailure (s := s.ended e.bay (w + 2000)) e.bay .noReply
  have hcounted := State.bay_bumpNoReply (s := s.ended e.bay (w + 2000)) e.bay
  have hframe := State.countFailure_eq (s := s.ended e.bay (w + 2000)) e.bay .noReply
  have hend : (s.ended e.bay (w + 2000)).failedAttempt e false .noReply =
      (((s.ended e.bay (w + 2000)).countFailure e.bay .noReply).takenOut e .noReply).reportService e.bay .noReply [] := by
    rw [← State.endTransaction_service (n := 0) hcls (.inl ⟨n, hop⟩)]
    simp [State.failedAttempt, hex, FailKind.outcome]
  have hexec := exec_busReplyWindowTimeout hx hw hwhat habs hbus hblock
  rw [hend] at hexec
  rw [State.ended_link] at hnote
  have hnow : ((s.ended e.bay (w + 2000)).countFailure e.bay .noReply).now = max s.now (w + 2000) :=
    (congrArg State.now hframe).trans (State.ended_now _ _)
  have hhist : ((s.ended e.bay (w + 2000)).countFailure e.bay .noReply).hist = s.hist :=
    (congrArg State.hist hframe).trans (State.ended_hist _ _)
  have hstore : ((s.ended e.bay (w + 2000)).countFailure e.bay .noReply).store = s.store :=
    (congrArg State.store hframe).trans (State.ended_store _ _)
  change ((s.ended e.bay (w + 2000)).countFailure e.bay .noReply).bay e.bay = _ at hcounted
  generalize (s.ended e.bay (w + 2000)).countFailure e.bay .noReply = u at *
  have hbay := (u.bay_takenOut (e := e) (last := .noReply)).trans (by rw [hcounted, State.bay_ended])
  rw [State.reportService_noReply (n := n) (by rw [State.takenOut_link, ← hwait]; exact (congrArg LinkUnit.waiting hnote.eq :))
    (by rw [hbay]; exact hst)] at hexec
  obtain ⟨h1, h2, h3, h4, h5, h6⟩ := State.goLost_spec (b := e.bay)
    (s := (u.takenOut e .noReply).finishRequest .noReply [] false)
    (by rw [State.busEntry_finishRequest, ← hcls, State.busEntry_takenOut])
  have hintake : (u.takenOut e .noReply).link.intake = q :: rest := by
    rw [State.takenOut_link, hnote.intake, hq]
  rw [State.bay_finishRequest, hbay, State.finishRequest_now, State.takenOut_now, hnow] at h1
  refine ⟨_, hexec, ?_⟩
  refine ⟨State.answered.of_link (State.finishRequest_answered hintake .noReply [] false (h2.conclude ?_)) ?_, ?_, ?_, ?_,
    ?_, ?_, ?_, ?_, ?_, ?_, ?_, ?_⟩
  · intro ms h
    have hwaiting := (congrArg LinkUnit.waiting h2.eq :)
    rw [State.finishRequest_of_intake hintake] at hwaiting
    rw [State.finishRequest_of_intake hintake, hwaiting] at h
    cases h
  · rw [State.takenOut_link, hnote.replyFrames]
  · rw [State.busEntry_conclude, h5]
  · rw [State.bay_conclude]; exact (congrArg Bay.state h1.eq :)
  · rw [State.bay_conclude]; exact h1.lost rfl
  · rw [State.bay_conclude]; exact (congrArg Bay.writeBackAt h1.eq :)
  · rw [State.bay_conclude]; exact (congrArg Bay.relinkAt h1.eq :)
  · rw [State.bay_conclude]
    exact h1.outcome.elim id id
  · exact State.told_conclude h3 (by rw [h2.tx, State.finishRequest_link_tx, State.takenOut_link, hnote.tx])
  · rw [State.bay_conclude]; exact (congrArg Bay.committed h1.eq :)
  · rw [State.bay_conclude]; exact (congrArg Bay.doubt h1.eq :)
  · rw [State.conclude_store, h6, State.finishRequest_store, State.takenOut_store, hstore]
  · rw [State.conclude_hist_table, h4, State.finishRequest_hist, State.takenOut_hist, hhist]

end Sys2Proof.Machine

/-! The requests that answer with records, and those that wait for a save or for the bay bus (R48, R49, R113, R147, R148,
R162 to R167). -/

namespace Sys2Proof.Machine

variable {s t : State} {q : Request} {rest : List Request} {n : Byte} {p : List Byte}

/-! ## Numbers of a payload -/

theorem readBay_eq_some {b : BayId} : readBay n = some b ↔ n.toNat = b.val := by
  unfold readBay
  split
  · simp [Fin.ext_iff]
  · next h =>
    have hne : n.toNat ≠ b.val := fun k => h (k ▸ b.isLt)
    simp [hne]

theorem readBay_eq_none : readBay n = none ↔ 23 < n.toNat := by
  unfold readBay
  split
  · next h => simpa using Nat.le_of_lt_succ h
  · next h => simpa using Nat.lt_of_succ_le (Nat.le_of_not_lt h)

@[simp] theorem leBytes_length (k v : Nat) : (leBytes k v).length = k := by
  induction k generalizing v with
  | zero => rfl
  | succ k ih => simp [leBytes, ih]

@[simp] theorem beBytes_length (k v : Nat) : (beBytes k v).length = k := by simp [beBytes]

@[simp] theorem Settings.block_length (k : Settings) : k.block.length = 19 := by simp [Settings.block]

@[simp] theorem identityBytes_length (i : Option Identity) : (identityBytes i).length = 15 := by
  cases i <;> simp [identityBytes]

/-! ## The queries -/

/-- Settles O43: each query answers with its record, and the end of a request only answers. -/
theorem queriesOnlyAnswer : Obligations.QueriesOnlyAnswer := by
  intro s q rest n p
  refine ⟨fun hex => ?_, fun hex hp => ?_, fun hex hp => ?_, ?_, fun c => ?_, fun b => ?_⟩
  · exact ⟨_, exec_request hex, s.finish_onlyAnswered hex _ _ _⟩
  · refine ⟨_, exec_request hex, fun c hc => ?_, fun hn => ?_⟩
    · simp only [Req.close, Req.perform, State.channelQuery, hp, byteAt_cons_zero, readChan_eq_some.mpr hc]
      exact s.finish_onlyAnswered hex _ _ _
    · simp only [Req.close, Req.perform, State.channelQuery, hp, byteAt_cons_zero, readChan_eq_none.mpr hn]
      exact s.finish_onlyAnswered hex _ _ _
  · refine ⟨_, exec_request hex, fun b hb => ?_, fun hn => ?_⟩
    · simp only [Req.close, Req.perform, State.bayQuery, hp, byteAt_cons_zero, readBay_eq_some.mpr hb]
      exact s.finish_onlyAnswered hex _ _ _
    · simp only [Req.close, Req.perform, State.bayQuery, hp, byteAt_cons_zero, readBay_eq_none.mpr hn]
      exact s.finish_onlyAnswered hex _ _ _
  · simp [State.statusFields]
  · cases hk : (s.chan c).config <;> simp [State.chanRecord, hk]
  · simp only [State.bayRecord]
    split <;> simp

/-! ## Requests that wait -/

/-- A request waits: its place stays reserved, it stays in the intake, and no reply frame is placed. -/
structure State.holds (s t : State) (w : Waiting) (q : Request) (rest : List Request) : Prop where
  waiting : t.link.waiting = some w
  reserved : t.link.reserved = true
  intake : t.link.intake = q :: rest
  frames : t.link.replyFrames = s.link.replyFrames

/-- A request that waits, from the link a command leaves before it ends. -/
theorem State.holds_transmit {r : Req} {w : Waiting} (hex : s.executable r q rest)
    (h : t.link = (s.reserve.waitFor w).link) : s.holds t.transmit w q rest := by
  obtain ⟨-, -, hintake, -, -⟩ := hex
  have hnotes := State.noteOnly_transmit (NoteOnly.refl t.link)
  refine ⟨?_, ?_, ?_, hnotes.2.trans ?_⟩ <;> simp [h, State.waitFor, State.reserve, hintake, LinkUnit.replyFrames]

/-- A request that asks for a class-1 save waits for it, and nothing else changes. -/
theorem State.askKeySave_holds {r : Req} (hex : s.executable r q rest) (k : KeySave) :
    let t := (s.reserve.askKeySave k).transmit
    t.hist = { s.hist with keySaves := s.hist.keySaves ++ [k] } ∧ t.link.waiting = some .keySave ∧
      t.link.reserved = true ∧ t.link.intake = q :: rest ∧ t.link.replyFrames = s.link.replyFrames ∧
      t = { s with hist := t.hist, link := t.link } := by
  have hwait : s.holds (s.reserve.askKeySave k).transmit .keySave q rest := State.holds_transmit hex rfl
  refine ⟨?_, hwait.waiting, hwait.reserved, hwait.intake, hwait.frames, ?_⟩
  · simp [State.askKeySave, State.waitFor, State.reserve]
  · apply State.eq_of_fields <;> simp [State.askKeySave, State.waitFor, State.reserve]

/-- Settles O51. -/
theorem keyRequestsWaitForTheirSave : Obligations.KeyRequestsWaitForTheirSave := by
  intro s q rest
  refine ⟨fun n kb hex hp hlen => ?_, fun hex => ?_⟩
  · have hkey : slice q.payload 1 16 = kb := by simp [hp, slice, hlen.symm]
    refine ⟨_, exec_request hex, fun hn => ?_, fun hn hlock => ?_, fun slot hn hlock => ?_⟩
    · simp only [Req.close, Req.perform, State.loadKey, hp, byteAt_cons_zero, readSlot_eq_none.mpr hn]
      exact s.finish_onlyAnswered hex _ _ _
    · have hslot : readSlot n = some ⟨n.toNat, by omega⟩ := readSlot_eq_some.mpr rfl
      have hlock : s.reserve.store.locked = true := hlock
      simp only [Req.close, Req.perform, State.loadKey, hp, byteAt_cons_zero, hslot, hlock, if_true]
      exact s.finish_onlyAnswered hex _ _ _
    · have hlock : s.reserve.store.locked = false := hlock
      have hperf : Req.loadKey.perform s.reserve q.payload = s.reserve.askKeySave (.key slot (BitVec.ofNat 128 (beNat kb))) := by
        simp only [Req.perform, State.loadKey, hkey]
        simp only [hp, byteAt_cons_zero, readSlot_eq_some.mpr hn, hlock]
        rfl
      rw [hperf]
      exact State.askKeySave_holds hex _
  · refine ⟨_, exec_request hex, fun hlock => ?_, fun hlock => ?_⟩
    · have hlock : s.reserve.store.locked = true := hlock
      simp only [Req.close, Req.perform, State.lockKeys, hlock, if_true]
      exact s.finish_onlyAnswered hex _ _ _
    · have hlock : s.reserve.store.locked = false := hlock
      have hperf : Req.lockKeys.perform s.reserve q.payload = s.reserve.askKeySave .lock := by
        simp only [Req.perform, State.lockKeys, hlock]
        rfl
      rw [hperf]
      exact State.askKeySave_holds hex _

/-! ## Cartridge blocks -/

theorem Bay.unsettled_iff (v : Bay) : v.unsettled = true ↔ v.step ≠ none ∨ v.state = .linking ∨ v.state = .lost := by
  simp [Bay.unsettled, or_assoc, Option.isSome_iff_ne_none]

/-- A request that queues its block as the bay's SERVICE entry waits for it, and nothing else changes. -/
theorem State.enqueueService_holds {r : Req} (hex : s.executable r q rest) (w : Waiting) (b : BayId) (op : BusOp) :
    let t := ((s.reserve.waitFor w).enqueue b .service op none).transmit
    s.holds t w q rest ∧
      (t.seg (baySeg b)).queue = (s.seg (baySeg b)).queue ++ [newBusEntry b .service op none s.now] ∧
      t = { s with segL := t.segL, segR := t.segR, link := t.link } := by
  refine ⟨State.holds_transmit hex (by rw [State.enqueue_eq]), ?_, ?_⟩
  · rw [State.seg_transmit, State.seg_enqueue]
    rfl
  · apply State.eq_of_fields <;> simp [State.waitFor, State.reserve, State.enqueue, State.modSeg]

/-- The blocks of a CART WRITE: the first eight bytes, and one less than it has in all. -/
theorem writeBlocks_cons {m : Byte} {d : List Byte} (h8 : 8 ≤ d.length) (first : Nat) :
    ∃ more, writeBlocks first (n :: m :: d) = (first, d.take 8) :: more ∧ more.length + 1 = d.length / 8 := by
  obtain ⟨k, hk⟩ : ∃ k, d.length / 8 = k + 1 := ⟨d.length / 8 - 1, by omega⟩
  refine ⟨((List.range k).map Nat.succ).map (fun i => (first + i, slice (n :: m :: d) (2 + 8 * i) 8)), ?_, ?_⟩
  · have hlen : ((n :: m :: d).length - 2) / 8 = k + 1 := hk
    simp only [writeBlocks, hlen, List.range_succ_eq_map, List.map_cons]
    simp [slice]
  · simp [hk]

/-- Settles O52: the tests in order; a block that passes them is queued. -/
theorem cartRequestsQueueTheirBlock : Obligations.CartRequestsQueueTheirBlock := by
  intro s q rest n m d
  refine ⟨fun hex hp => ?_, fun hex hp hmod h8 h64 => ?_⟩
  · have hm : byteAt [n, m] 1 = m := rfl
    refine ⟨_, exec_request hex, fun hbad => ?_, fun b hb hmle => ⟨fun hnone => ?_, fun hsome => ⟨fun hun => ?_,
      fun hstep hl hlost => ?_⟩⟩⟩
    · have hperf : Req.cartRead.perform s.reserve q.payload = s.reserve.finishRequest .badArgument [] false := by
        simp only [Req.perform, State.cartReadRequest, hp, byteAt_cons_zero, hm]
        split
        · rfl
        · next b hb =>
          have hb := readBay_eq_some.mp hb
          rw [if_pos (by omega)]
          rfl
      rw [hperf]
      exact s.finish_onlyAnswered hex _ _ _
    · have hperf : Req.cartRead.perform s.reserve q.payload = s.reserve.finishRequest .notPresent [] false := by
        simp [Req.perform, State.cartReadRequest, hp, hm, readBay_eq_some.mpr hb, hmle, hnone, State.refuseRequest]
      rw [hperf]
      exact s.finish_onlyAnswered hex _ _ _
    · have hperf : Req.cartRead.perform s.reserve q.payload = s.reserve.finishRequest .badState [] false := by
        simp [Req.perform, State.cartReadRequest, hp, hm, readBay_eq_some.mpr hb, hmle, hsome, State.refuseRequest,
          (s.bay b).unsettled_iff.mpr hun]
      rw [hperf]
      exact s.finish_onlyAnswered hex _ _ _
    · have hun : (s.bay b).unsettled = false := by simp [Bay.unsettled, hstep, hl, hlost]
      have hperf : Req.cartRead.perform s.reserve q.payload =
          (s.reserve.waitFor (.cartRead b m.toNat)).enqueue b .service (.readBlock m.toNat) none := by
        simp [Req.perform, State.cartReadRequest, hp, hm, readBay_eq_some.mpr hb, hmle, hsome, hun]
      rw [hperf]
      obtain ⟨hwait, hqueue, heq⟩ := State.enqueueService_holds hex (.cartRead b m.toNat) b (.readBlock m.toNat)
      exact ⟨hwait.waiting, hwait.reserved, hwait.intake, hwait.frames, hqueue, heq⟩
  · have hm : byteAt (n :: m :: d) 1 = m := rfl
    have hlen : ((n :: m :: d).length - 2) / 8 = d.length / 8 := by simp
    refine ⟨_, exec_request hex, fun hbad => ?_, fun b hb => ⟨fun harea => ?_, fun hlow hhigh => ⟨fun hnone => ?_,
      fun hsome => ⟨fun hun => ?_, fun hstep hl hlost => ?_⟩⟩⟩⟩
    · have hperf : Req.cartWrite.perform s.reserve q.payload = s.reserve.finishRequest .badArgument [] false := by
        simp [Req.perform, State.cartWriteRequest, hp, readBay_eq_none.mpr hbad, State.refuseRequest]
      rw [hperf]
      exact s.finish_onlyAnswered hex _ _ _
    · have hout : ¬ inUserArea m.toNat (d.length / 8) = true := by simp [inUserArea]; omega
      have hperf : Req.cartWrite.perform s.reserve q.payload = s.reserve.finishRequest .isProtected [] false := by
        simp only [Req.perform, State.cartWriteRequest, hp, byteAt_cons_zero, hm, hlen, readBay_eq_some.mpr hb]
        rw [if_pos hout]
        rfl
      rw [hperf]
      exact s.finish_onlyAnswered hex _ _ _
    all_goals
      have hin : inUserArea m.toNat (d.length / 8) = true := by simp [inUserArea]; omega
      have hn : u8 b.val = n := hb ▸ u8_toNat n
    · have hperf : Req.cartWrite.perform s.reserve q.payload = s.reserve.finishRequest .notPresent [n, 0, 0xFF] false := by
        simp [Req.perform, State.cartWriteRequest, hp, hm, readBay_eq_some.mpr hb, hin, hnone, hn]
      rw [hperf]
      exact s.finish_onlyAnswered hex _ _ _
    · have hperf : Req.cartWrite.perform s.reserve q.payload = s.reserve.finishRequest .badState [] false := by
        simp [Req.perform, State.cartWriteRequest, hp, hm, readBay_eq_some.mpr hb, hin, hsome, State.refuseRequest,
          (s.bay b).unsettled_iff.mpr hun]
      rw [hperf]
      exact s.finish_onlyAnswered hex _ _ _
    · have hun : (s.bay b).unsettled = false := by simp [Bay.unsettled, hstep, hl, hlost]
      obtain ⟨more, hblocks, hmore⟩ := writeBlocks_cons (n := n) (m := m) h8 m.toNat
      have hperf : Req.cartWrite.perform s.reserve q.payload =
          (s.reserve.waitFor (.cartWrite b 0 more)).enqueue b .service (.writeBlock m.toNat (d.take 8)) none := by
        simp [Req.perform, State.cartWriteRequest, hp, hm, readBay_eq_some.mpr hb, hin, hsome, hun, hblocks]
      rw [hperf]
      obtain ⟨hwait, hqueue, heq⟩ :=
        State.enqueueService_holds hex (.cartWrite b 0 more) b (.writeBlock m.toNat (d.take 8))
      exact ⟨⟨more, hwait.waiting, hmore⟩, hwait.reserved, hwait.intake, hwait.frames, hqueue, heq⟩

end Sys2Proof.Machine

/-! COUNTERS READ, HISTORY FORGET and CONFIGURE CHANNEL (R80, R96 to R98, R106, R148, R167). -/

namespace Sys2Proof.Machine

variable {s t u w : State} {q : Request} {rest : List Request} {n : Byte} {p : List Byte}

/-! ## The end of a request that changed the state before -/

/-- A request finished in a state with the intake and the reply frames of `s`: beyond that state only requests and replies
change, and it is answered. -/
theorem State.finish_from (h : w.link.intake = q :: rest) (k : w.link.replyFrames = s.link.replyFrames) (r : Result)
    (fs : List Byte) (z : Bool) :
    w.sameOutsideLink (w.finishRequest r fs z).transmit ∧ w.link.onlyAnswers (w.finishRequest r fs z).transmit.link ∧
      s.answered (w.finishRequest r fs z).transmit q rest r fs := by
  obtain ⟨heq, hframes⟩ := w.finish_transmit h r fs z
  refine ⟨?_, ?_, ?_, ?_, ?_, hframes.trans (by rw [k])⟩
  · rw [State.sameOutsideLink, heq]
  · rw [LinkUnit.onlyAnswers, heq]
  all_goals rw [heq]

/-! ## COUNTERS READ (R167) -/

theorem readScope_bay {b : BayId} (h : n.toNat = b.val) : readScope n = some (.bay b) := by
  have hb : n.toNat < 24 := h ▸ b.isLt
  rw [readScope, dif_pos hb]
  simp [h]

theorem readScope_chan {c : ChanId} (h : n.toNat = 64 + c.val) : readScope n = some (.chan c) := by
  have hc := c.isLt
  rw [readScope, dif_neg (by omega), dif_pos (by omega)]
  simp [h]

theorem readScope_link : readScope 0x80 = some .link := by decide

theorem readScope_none (h : 24 ≤ n.toNat) (hc : ¬ (64 ≤ n.toNat ∧ n.toNat < 76)) (hl : n ≠ 0x80) :
    readScope n = none := by
  rw [readScope, dif_neg (by omega), dif_neg (by omega), if_neg hl]

/-- The code of a scope is the byte that names it. -/
theorem Scope.code_of_readScope {sc : Scope} (h : readScope n = some sc) : sc.code = n := by
  unfold readScope at h
  split at h
  · cases h
    exact u8_toNat n
  · split at h
    · next hc =>
      cases h
      have hval : 64 + (n.toNat - 64) = n.toNat := by omega
      simp only [Scope.code]
      rw [hval, u8_toNat]
    · split at h
      · next hl =>
        cases h
        exact hl.symm
      · cases h

/-- COUNTERS READ of a scope: its counters are cleared, and the end of the request only answers. -/
theorem State.countersRead_scope (hex : s.executable .countersRead q rest) (hp : q.payload = n :: p) {sc : Scope}
    (hsc : readScope n = some sc) (t : State) (ht : t = Req.countersRead.close (Req.countersRead.perform s.reserve q.payload)) :
    (s.reserve.clearCounters sc).sameOutsideLink t ∧ (s.reserve.clearCounters sc).link.onlyAnswers t.link ∧
      s.answered t q rest .ok (n :: s.counterValues sc ++ beBytes 4 (s.scopeUnattributed sc)) := by
  obtain ⟨-, -, hintake, -, -⟩ := hex
  have hperf : t = ((s.reserve.clearCounters sc).finishRequest .ok
      (n :: s.counterValues sc ++ beBytes 4 (s.scopeUnattributed sc)) false).transmit := by
    rw [ht]
    simp only [Req.close, Req.perform, State.countersRead, hp, byteAt_cons_zero, hsc, Scope.code_of_readScope hsc]
    cases sc <;> rfl
  have hlink : (s.reserve.clearCounters sc).link.intake = q :: rest ∧
      (s.reserve.clearCounters sc).link.replyFrames = s.link.replyFrames := by
    cases sc <;> exact ⟨hintake, rfl⟩
  rw [hperf]
  exact State.finish_from hlink.1 hlink.2 _ _ _

/-- Settles O54. -/
theorem countersReadClearsItsScope : Obligations.CountersReadClearsItsScope := by
  intro s q rest n p hex hp
  refine ⟨_, exec_request hex, fun b hb => ?_, fun c hc => ?_, fun hl => ?_, fun h1 h2 h3 => ?_⟩
  · obtain ⟨hout, hlink, hans⟩ := State.countersRead_scope hex hp (readScope_bay hb) _ rfl
    generalize Req.countersRead.close _ = t at hout hlink hans
    have hbays : t.bays = (s.reserve.clearCounters (.bay b)).bays := (congrArg State.bays hout :)
    have hbay (x : BayId) : t.bay x = (s.reserve.clearCounters (.bay b)).bay x := by simp [State.bay, hbays]
    refine ⟨?_, fun x hx => ?_, ?_, hlink, ?_⟩
    · rw [hbay]
      simp [State.clearCounters, Counter.zero]
    · rw [hbay]
      simp [State.clearCounters, State.bay_modBay_ne _ hx]
    · rw [hbays]
      exact hout
    · simpa [State.counterValues, Bay.counterBytes, zeros, List.replicate_succ, State.scopeUnattributed,
        show beBytes 4 0 = [0, 0, 0, 0] by decide] using hans
  · obtain ⟨hout, hlink, hans⟩ := State.countersRead_scope hex hp (readScope_chan hc) _ rfl
    generalize Req.countersRead.close _ = t at hout hlink hans
    have hmeters : t.meters = (s.reserve.clearCounters (.chan c)).meters := (congrArg State.meters hout :)
    have hmeter (x : ChanId) : t.meter x = (s.reserve.clearCounters (.chan c)).meter x := by simp [State.meter, hmeters]
    refine ⟨?_, fun x hx => ?_, ?_, hlink, hans⟩
    · rw [hmeter]
      simp [State.clearCounters, Counter.zero]
    · rw [hmeter]
      simp [State.clearCounters, State.meter_modMeter_ne _ hx]
    · rw [hmeters]
      exact hout
  · subst hl
    obtain ⟨hout, hlink, hans⟩ := State.countersRead_scope hex hp readScope_link _ rfl
    generalize Req.countersRead.close _ = t at hout hlink hans
    have hbad : t.link.badFrames = ⟨0, false⟩ := (congrArg LinkUnit.badFrames hlink :)
    have hdropped : t.link.droppedRefusals = ⟨0, false⟩ := (congrArg LinkUnit.droppedRefusals hlink :)
    have hignored : t.link.ignoredEntries = ⟨0, false⟩ := (congrArg LinkUnit.ignoredEntries hlink :)
    refine ⟨hbad, hdropped, hignored, hout, ?_⟩
    simpa [State.counterValues, LinkUnit.counterBytes, zeros, List.replicate_succ, State.scopeUnattributed,
      show beBytes 4 0 = [0, 0, 0, 0] by decide] using hans
  · have hperf : Req.countersRead.perform s.reserve q.payload = s.reserve.finishRequest .badArgument [] false := by
      simp [Req.perform, State.countersRead, hp, readScope_none h1 h2 h3, State.refuseRequest]
    rw [hperf]
    exact s.finish_onlyAnswered hex _ _ _

/-! ## HISTORY FORGET (R148) -/

/-- A refusal of HISTORY FORGET leaves the store, the table, the bays and the channels. -/
theorem State.forget_refused (hex : s.executable .historyForget q rest) {r : Result}
    (hperf : Req.historyForget.perform s.reserve q.payload = s.reserve.finishRequest r [] false) :
    ∃ t, exec .historyForget s = .next t ∧ s.answered t q rest r [] ∧ t.store = s.store ∧
      t.hist.table = s.hist.table ∧ t.bays = s.bays ∧ t.chans = s.chans := by
  refine ⟨_, exec_request hex, ?_⟩
  obtain ⟨-, -, hintake, -, -⟩ := hex
  rw [hperf]
  refine ⟨?_, ?_, ?_, ?_, ?_⟩
  · exact (State.finishRequest_answered_conclude (s := s.reserve) hintake r [] false).of_link rfl
  all_goals simp [Req.close, State.reserve]

/-- An entry that leaves the table touches the sets beside it, and no request that is not a flush. -/
theorem State.dropEntry_of_idle (h : s.link.waiting = none) (serial : Word64) :
    s.dropEntry serial = { s with hist := { s.hist with
      table := s.hist.table.filter (fun e => e.data.serial != serial), pfSet := markDone serial s.hist.pfSet } } := by
  simp [State.dropEntry, State.pfDone, State.flushDone, h]

/-- The state in which a HISTORY FORGET waits for the removal save of the entry it took out. -/
def State.forgotten (s : State) (e : Entry) (serial : Word64) : State :=
  { s with
    hist := { s.hist with
      table := s.hist.table.filter (fun x => x.data.serial != serial)
      pfSet := markDone serial s.hist.pfSet
      removals := s.hist.removals ++ [⟨e.slot, s.hist.writeOrder⟩]
      writeOrder := s.hist.writeOrder + 1 }
    link := { s.link with waiting := some (.forget e.slot serial e.data.owed e.data.inDoubt), reserved := true } }

/-- Settles O53. -/
theorem forgetTakesTheEntryOut : Obligations.ForgetTakesTheEntryOut := by
  intro s q rest hex hlen serial
  have hserial : BitVec.ofNat 64 (beNat (slice q.payload 0 8)) = serial := by
    simp [slice, ← hlen, serial]
  refine ⟨fun habsent => ?_, fun e he => ⟨fun hpin => ?_, fun hpin => ?_⟩⟩
  · refine State.forget_refused hex ?_
    have hnone : s.reserve.entryOf? serial = none := by
      simpa [State.entryOf?, State.reserve] using habsent
    simp only [Req.perform, State.historyForget, hserial, hnone]
    rfl
  · refine State.forget_refused hex ?_
    have he : s.reserve.entryOf? serial = some e := he
    simp only [Req.perform, State.historyForget, hserial, he, hpin]
    rfl
  · have hex' := hex
    obtain ⟨-, hidle, hintake, -, -⟩ := hex'
    have he : s.reserve.entryOf? serial = some e := he
    have hidle : s.reserve.link.waiting = none := hidle
    have hperf : Req.historyForget.perform s.reserve q.payload = s.forgotten e serial := by
      simp only [Req.perform, State.historyForget, hserial, he, hpin]
      rw [State.dropEntry_of_idle hidle]
      rfl
    have hnotes : (s.forgotten e serial).link.onlyNotices (s.forgotten e serial).conclude.link :=
      State.onlyNotices_conclude (by simp [State.forgotten])
    refine ⟨_, exec_request hex, ?_⟩
    rw [hperf]
    refine ⟨?_, ?_, hnotes.waiting, hnotes.reserved, hnotes.intake.trans hintake, hnotes.2.trans rfl, ?_, ?_, ?_, ?_, ?_⟩
    all_goals simp [Req.close, State.forgotten]

end Sys2Proof.Machine

/-! CONFIGURE CHANNEL: its tests, and a first configuration (R96 to R98, R106). -/

namespace Sys2Proof.Machine

variable {s t u : State} {q : Request} {rest : List Request} {bs : List Byte} {c : ChanId}

/-! ## Reading the settings (R179) -/

theorem byteAt_drop (i j : Nat) : byteAt (bs.drop i) j = byteAt bs (i + j) := by
  simp [byteAt, List.getD_eq_getElem?_getD]

theorem beNat_pair (a b : Byte) : beNat [a, b] = a.toNat * 256 + b.toNat := by
  simp [beNat, leNat]
  omega

theorem slice_two {i : Nat} (h : i + 1 < bs.length) : slice bs i 2 = [byteAt bs i, byteAt bs (i + 1)] := by
  have hi : i < bs.length := Nat.lt_of_succ_lt h
  have hcons : bs.drop i = bs[i] :: bs[i + 1] :: bs.drop (i + 1 + 1) := by
    rw [List.drop_eq_getElem_cons hi, List.drop_eq_getElem_cons h]
  rw [slice, hcons]
  show [bs[i], bs[i + 1]] = _
  simp [byteAt, List.getD_eq_getElem?_getD, h, hi]

theorem readNonGenuine_some {x : Byte} (h : x.toNat ≤ 1) : ∃ g, readNonGenuine x = some g ∧ g.code = x := by
  obtain rfl | rfl : x = 0 ∨ x = 1 := by bv_omega
  · exact ⟨.serve, rfl, rfl⟩
  · exact ⟨.refuse, rfl, rfl⟩

theorem readNonGenuine_none {x : Byte} (h : 1 < x.toNat) : readNonGenuine x = none := by
  simp only [readNonGenuine]
  rw [if_neg (by bv_omega), if_neg (by bv_omega)]

theorem readRefill_some {x : Byte} (h : x.toNat ≤ 2) : ∃ g, readRefill x = some g ∧ g.code = x := by
  obtain rfl | rfl | rfl : x = 0 ∨ x = 1 ∨ x = 2 := by bv_omega
  · exact ⟨.proceed, rfl, rfl⟩
  · exact ⟨.avoid, rfl, rfl⟩
  · exact ⟨.refuse, rfl, rfl⟩

theorem readRefill_none {x : Byte} (h : 2 < x.toNat) : readRefill x = none := by
  simp only [readRefill]
  rw [if_neg (by bv_omega), if_neg (by bv_omega), if_neg (by bv_omega)]

theorem readRestart_some {x : Byte} (h : x.toNat ≤ 1) : ∃ g, readRestart x = some g ∧ g.code = x := by
  obtain rfl | rfl : x = 0 ∨ x = 1 := by bv_omega
  · exact ⟨.auto, rfl, rfl⟩
  · exact ⟨.host, rfl, rfl⟩

theorem readRestart_none {x : Byte} (h : 1 < x.toNat) : readRestart x = none := by
  simp only [readRestart]
  rw [if_neg (by bv_omega), if_neg (by bv_omega)]

theorem readSettings_none (h : 1 < (byteAt bs 13).toNat ∨ 2 < (byteAt bs 14).toNat ∨ 1 < (byteAt bs 15).toNat) :
    readSettings bs = none := by
  unfold readSettings
  split
  · next hng hrf hrm =>
    rcases h with h | h | h
    · simp [readNonGenuine_none h] at hng
    · simp [readRefill_none h] at hrf
    · simp [readRestart_none h] at hrm
  · rfl

/-- The settings of a payload whose codes name listed values: each numeric field at the nearer end of its range (R97). -/
structure Settings.appliedFrom (k : Settings) (p : List Byte) : Prop where
  colour : k.colour = byteAt p 1
  v0 : k.v0.toNat = (byteAt p 2).toNat * 256 + (byteAt p 3).toNat
  v1 : k.v1.toNat = (byteAt p 4).toNat * 256 + (byteAt p 5).toNat
  v2 : k.v2.toNat = (byteAt p 6).toNat * 256 + (byteAt p 7).toNat
  slope : k.slope = max (-8) (min 8 (byteAt p 8).toInt)
  lowLevel : k.lowLevel = max 1 (min 50 (byteAt p 9).toNat)
  tolerance : k.tolerance = min 15 (byteAt p 10).toNat
  quantumMl : k.quantumMl = max 1 (byteAt p 11).toNat
  intervalS : k.intervalS = max 1 (byteAt p 12).toNat
  reauth : k.reauth = (byteAt p 13).toNat
  nonGenuine : k.nonGenuine.code = byteAt p 14
  refill : k.refill.code = byteAt p 15
  restartMode : k.restartMode.code = byteAt p 16
  probeRef : k.probeRef = min 15 (byteAt p 17).toNat
  probeMs : k.probeMs = max 1 (byteAt p 18).toNat
  switchTens : k.switchTens = max 1 (byteAt p 19).toNat

/-- A byte is clamped from below alone. -/
theorem clamp_byte (x : Byte) : clamp 1 255 x.toNat = max 1 x.toNat := by
  have := x.isLt
  unfold clamp
  omega

theorem readSettings_some {p : List Byte} (hlen : p.length = 20) (h14 : (byteAt p 14).toNat ≤ 1)
    (h15 : (byteAt p 15).toNat ≤ 2) (h16 : (byteAt p 16).toNat ≤ 1) :
    ∃ k, readSettings (p.drop 1) = some k ∧ k.appliedFrom p := by
  obtain ⟨ng, hng, kng⟩ := readNonGenuine_some h14
  obtain ⟨rf, hrf, krf⟩ := readRefill_some h15
  obtain ⟨rm, hrm, krm⟩ := readRestart_some h16
  have hword (i : Nat) (hi : i + 1 < 19) :
      (BitVec.ofNat 16 (beNat (slice (p.drop 1) i 2))).toNat =
        (byteAt p (1 + i)).toNat * 256 + (byteAt p (1 + (i + 1))).toNat := by
    rw [slice_two (by simp; omega), beNat_pair, byteAt_drop, byteAt_drop, BitVec.toNat_ofNat]
    have h1 := (byteAt p (1 + i)).isLt
    have h2 := (byteAt p (1 + (i + 1))).isLt
    omega
  cases hk : readSettings (p.drop 1) with
  | none =>
    unfold readSettings at hk
    simp only [byteAt_drop, Nat.reduceAdd, hng, hrf, hrm] at hk
    cases hk
  | some k =>
    unfold readSettings at hk
    simp only [byteAt_drop, Nat.reduceAdd, hng, hrf, hrm, Option.some.injEq] at hk
    subst hk
    refine ⟨_, rfl, ?_⟩
    constructor <;> dsimp only
    · exact hword 1 (by omega)
    · exact hword 3 (by omega)
    · exact hword 5 (by omega)
    · rfl
    · rfl
    all_goals first | assumption | exact clamp_byte _ | simp [clamp]

/-! ## The tests of CONFIGURE CHANNEL (R96) -/

theorem State.configureChannel_badArgument {p : List Byte}
    (h : readChan (byteAt p 0) = none ∨ readSettings (p.drop 1) = none ∨
      ∃ k, readSettings (p.drop 1) = some k ∧ (k.colour = 0 ∨ 63 < k.colour.toNat)) :
    s.configureChannel p = s.finishRequest .badArgument [] false := by
  unfold State.configureChannel
  split
  · next hc hk =>
    rw [if_pos]
    · rfl
    · rcases h with h | h | ⟨x, hx, hcol⟩
      · simp [h] at hc
      · rw [h] at hk
        cases hk
      · rw [hx] at hk
        cases hk
        exact hcol
  · rfl

/-- Settles O49. -/
theorem configureTestsItsArguments : Obligations.ConfigureTestsItsArguments := by
  intro s q rest hex hlen byte
  refine ⟨fun hbad => ?_, fun c k hc h14 h15 h16 hlo hhi hk hne hbay => ?_⟩
  · refine ⟨_, exec_request hex, ?_⟩
    have hperf : Req.configureChannel.perform s.reserve q.payload = s.reserve.finishRequest .badArgument [] false := by
      refine State.configureChannel_badArgument ?_
      by_cases hcodes : 1 < byte 14 ∨ 2 < byte 15 ∨ 1 < byte 16
      · exact .inr (.inl (readSettings_none (by rwa [byteAt_drop, byteAt_drop, byteAt_drop])))
      · simp only [not_or, Nat.not_lt] at hcodes
        obtain ⟨h14, h15, h16⟩ := hcodes
        obtain ⟨k, hk, hfrom⟩ := readSettings_some hlen h14 h15 h16
        by_cases hchan : 11 < byte 0
        · exact .inl (readChan_eq_none.mpr hchan)
        · refine .inr (.inr ⟨k, hk, ?_⟩)
          rw [hfrom.colour]
          have hcol : byte 1 = 0 ∨ 63 < byte 1 := by omega
          exact hcol.imp (fun h => BitVec.eq_of_toNat_eq h) id
    rw [hperf]
    exact s.finish_onlyAnswered hex _ _ _
  · refine ⟨_, exec_request hex, ?_⟩
    obtain ⟨new, hnew, hfrom⟩ := readSettings_some hlen h14 h15 h16
    have hcolour : new.colour.toNat = byte 1 := congrArg BitVec.toNat hfrom.colour
    have hk' : (s.reserve.chan c).config = some k := hk
    have hempty : s.reserve.bothEmpty c = false := by
      simpa [State.bothEmpty, Decidable.imp_iff_not_or] using hbay
    have hperf : Req.configureChannel.perform s.reserve q.payload = s.reserve.finishRequest .badState [] false := by
      simp only [Req.perform, State.configureChannel, readChan_eq_some.mpr hc, hnew]
      rw [if_neg, hk']
      · dsimp only
        rw [if_pos]
        · rfl
        · exact ⟨fun e => hne (by rw [e, hcolour]), by simp [hempty]⟩
      · rintro (h | h)
        · have : byte 1 = 0 := by rw [← hcolour, h]; rfl
          omega
        · omega
    rw [hperf]
    exact s.finish_onlyAnswered hex _ _ _

/-! ## A first configuration (R98, R106) -/

theorem State.bay_linkIfPresent (b : BayId) :
    (s.linkIfPresent b).bay b =
      if (s.bay b).state = .present then { (s.bay b).startLink with state := .linking } else s.bay b := by
  unfold State.linkIfPresent
  split
  · rw [State.bay_startFirstLink]
  · rfl

theorem State.bay_linkIfPresent_ne {b x : BayId} (h : x ≠ b) : (s.linkIfPresent b).bay x = s.bay x := by
  unfold State.linkIfPresent
  split
  · rw [State.bay_startFirstLink_ne h]
  · rfl

theorem State.bay_restartFilter {b : BayId} {k : Settings} (hk : s.bayConfig b = some k) :
    (s.restartFilter b).bay b = { s.bay b with
      probeAt := if (s.bay b).debounced = true then some (s.now + k.probeMs * 1000) else (s.bay b).probeAt } := by
  simp only [State.restartFilter, hk]
  split
  · simp
  · rfl

theorem State.bay_restartFilter_ne {b x : BayId} (h : x ≠ b) : (s.restartFilter b).bay x = s.bay x := by
  unfold State.restartFilter
  repeat' split
  · exact s.bay_modBay_ne h _
  · rfl
  · rfl

/-- Bays, segments and notices alone differ. -/
structure BaysSegs (s t : State) : Prop where
  eq : t = { s with bays := t.bays, segL := t.segL, segR := t.segR, link := t.link }
  notes : NoteOnly s.link t.link

theorem BaysSegs.trans (h : BaysSegs s t) (k : BaysSegs t u) : BaysSegs s u :=
  ⟨by rw [k.eq, h.eq], h.notes.trans k.notes⟩

theorem BaysSegs.linkIfPresent (h : BaysSegs s t) (b : BayId) : BaysSegs s (t.linkIfPresent b) := by
  unfold State.linkIfPresent
  split
  · exact h.trans ⟨State.startFirstLink_eq b, State.noteOnly_startFirstLink b⟩
  · exact h

theorem BaysSegs.restartFilter (h : BaysSegs s t) (b : BayId) : BaysSegs s (t.restartFilter b) := by
  unfold State.restartFilter
  repeat' split
  · exact h.trans ⟨rfl, NoteOnly.refl _⟩
  · exact h
  · exact h

theorem BaysSegs.bayConfig (h : BaysSegs s t) (b : BayId) : t.bayConfig b = s.bayConfig b := by
  have hchans : t.chans = s.chans := (congrArg State.chans h.eq :)
  simp [State.bayConfig, State.chan, hchans]

@[simp] theorem State.bay_firstConfigured (k : Settings) (b : BayId) : (s.firstConfigured c k).bay b = s.bay b := rfl

theorem State.chan_firstConfigured (k : Settings) : (s.firstConfigured c k).chan c = { s.chan c with
    config := some k, causes := { (s.chan c).causes with unconfigured := false } } := by
  simp [State.firstConfigured, State.modMeter]

theorem State.chan_firstConfigured_ne (k : Settings) {x : ChanId} (h : x ≠ c) :
    (s.firstConfigured c k).chan x = s.chan x := by
  simp [State.firstConfigured, State.modMeter, s.chan_modChan_ne h]

theorem State.meter_firstConfigured (k : Settings) : (s.firstConfigured c k).meter c = { s.meter c with
    model := some k.model, base := none, rt := 0, rv := 0 } :=
  State.meter_modMeter _ c _

theorem State.meter_firstConfigured_ne (k : Settings) {x : ChanId} (h : x ≠ c) :
    (s.firstConfigured c k).meter x = s.meter x := State.meter_modMeter_ne _ h _

theorem State.bayConfig_firstConfigured (k : Settings) (sd : Side) :
    (s.firstConfigured c k).bayConfig (sideBay c sd) = some k := by
  simp [State.bayConfig, State.chan_firstConfigured]

/-- The state of a first configuration as the channel enters STARVED: its PRESENT bays link up, their filters run. -/
def State.linkedUp (s : State) (c : ChanId) (k : Settings) : State :=
  (chanBays c).foldl State.restartFilter ((chanBays c).foldl State.linkIfPresent (s.firstConfigured c k))

theorem BaysSegs.linkedUp (c : ChanId) (k : Settings) : BaysSegs (s.firstConfigured c k) (s.linkedUp c k) := by
  have h : BaysSegs (s.firstConfigured c k) (s.firstConfigured c k) := ⟨rfl, NoteOnly.refl _⟩
  simp only [State.linkedUp, chanBays, List.foldl_cons, List.foldl_nil]
  exact (((h.linkIfPresent _).linkIfPresent _).restartFilter _).restartFilter _

/-- A bay of the channel after both were acted on. -/
theorem State.bay_linkedUp (k : Settings) (sd : Side) :
    (s.linkedUp c k).bay (sideBay c sd) =
      (let v := s.bay (sideBay c sd)
       { (if v.state = .present then { v.startLink with state := .linking } else v) with
         probeAt := if v.debounced = true then some (s.now + k.probeMs * 1000) else v.probeAt }) := by
  have hab : sideBay c .a ≠ sideBay c .b := sideBay_otherSide_ne c .b
  have h0 : BaysSegs (s.firstConfigured c k) (s.firstConfigured c k) := ⟨rfl, NoteOnly.refl _⟩
  have hl := (h0.linkIfPresent (sideBay c .a)).linkIfPresent (sideBay c .b)
  have hconf (x : Side) := s.bayConfig_firstConfigured (c := c) k x
  have hnow {t : State} (h : BaysSegs (s.firstConfigured c k) t) : t.now = s.now := (congrArg State.now h.eq :)
  cases sd
  · simp only [State.linkedUp, chanBays, List.foldl_cons, List.foldl_nil]
    rw [State.bay_restartFilter_ne hab, State.bay_restartFilter ((hl.bayConfig _).trans (hconf _)),
      State.bay_linkIfPresent_ne hab, State.bay_linkIfPresent, hnow hl,
      State.bay_firstConfigured]
    by_cases hp : (s.bay (sideBay c .a)).state = .present <;> simp [hp, Bay.startLink]
  · simp only [State.linkedUp, chanBays, List.foldl_cons, List.foldl_nil]
    have hr := hl.restartFilter (sideBay c .a)
    rw [State.bay_restartFilter ((hr.bayConfig _).trans (hconf _)), State.bay_restartFilter_ne hab.symm,
      State.bay_linkIfPresent, State.bay_linkIfPresent_ne hab.symm, hnow hr, State.bay_firstConfigured]
    by_cases hp : (s.bay (sideBay c .b)).state = .present <;> simp [hp, Bay.startLink]

theorem State.bay_linkedUp_ne (k : Settings) {b : BayId} (h : bayChan b ≠ c) : (s.linkedUp c k).bay b = s.bay b := by
  have hne (sd : Side) : b ≠ sideBay c sd := by
    rintro rfl
    simp at h
  simp only [State.linkedUp, chanBays, List.foldl_cons, List.foldl_nil]
  rw [State.bay_restartFilter_ne (hne _), State.bay_restartFilter_ne (hne _), State.bay_linkIfPresent_ne (hne _),
    State.bay_linkIfPresent_ne (hne _)]
  rfl

/-- Settles O50. -/
theorem firstConfigurationStarvesTheChannel : Obligations.FirstConfigurationStarvesTheChannel := by
  intro s q rest c hex hlen byte hc h14 h15 h16 hlo hhi hnone
  obtain ⟨k, hk, hfrom⟩ := readSettings_some hlen h14 h15 h16
  have hcolour : k.colour.toNat = byte 1 := congrArg BitVec.toNat hfrom.colour
  have hchan : readChan (byteAt q.payload 0) = some c := readChan_eq_some.mpr hc
  have hc8 : u8 c.val = byteAt q.payload 0 := hc ▸ u8_toNat _
  have hnone' : (s.reserve.chan c).config = none := hnone
  have hperf : Req.configureChannel.perform s.reserve q.payload =
      ((s.reserve.linkedUp c k).enterStarved c).finishRequest .ok ([byteAt q.payload 0, 1] ++ k.block) false := by
    simp only [Req.perform, State.configureChannel, hchan, hk]
    rw [if_neg, hnone', ← hc8]
    · rfl
    · rintro (h | h)
      · have : byte 1 = 0 := by rw [← hcolour, h]; rfl
        omega
      · omega
  have hup : BaysSegs (s.reserve.firstConfigured c k) (s.reserve.linkedUp c k) := BaysSegs.linkedUp c k
  have hbay := State.bay_linkedUp (s := s.reserve) (c := c) k
  have hbay' (b : BayId) (hb : bayChan b ≠ c) := State.bay_linkedUp_ne (s := s.reserve) k hb
  generalize s.reserve.linkedUp c k = u at hperf hup hbay hbay'
  have hnotes : NoteOnly s.reserve.link (u.enterStarved c).link := 
    hup.notes.trans (NoteOnly.raise (s := u.setChan c (u.chan c).starve) (NoteOnly.refl _) _)
  obtain ⟨hout, -, hans⟩ := State.finish_from (s := s) (w := u.enterStarved c) (hnotes.intake.trans hex.2.2.1)
    hnotes.replyFrames .ok ([byteAt q.payload 0, 1] ++ k.block) false
  refine ⟨_, k, exec_request hex, ?_⟩
  rw [hperf]
  simp only [Req.close]
  generalize (State.finishRequest _ _ _ _).transmit = t at hout hans
  have hchans : t.chans = (u.enterStarved c).chans := (congrArg State.chans hout :)
  have hchan' (x : ChanId) : t.chan x = (u.enterStarved c).chan x := by simp [State.chan, hchans]
  have hu (x : ChanId) : u.chan x = (s.reserve.firstConfigured c k).chan x := by
    have : u.chans = (s.reserve.firstConfigured c k).chans := (congrArg State.chans hup.eq :)
    simp [State.chan, this]
  have hbays (b : BayId) : t.bay b = u.bay b := by
    have : t.bays = (u.enterStarved c).bays := (congrArg State.bays hout :)
    simp [State.bay, this, State.enterStarved]
  have hmeters : t.meters = (s.reserve.firstConfigured c k).meters := by
    have h1 : t.meters = (u.enterStarved c).meters := (congrArg State.meters hout :)
    have h2 : u.meters = (s.reserve.firstConfigured c k).meters := (congrArg State.meters hup.eq :)
    rw [h1, ← h2]
    simp [State.enterStarved]
  have hmeter (x : ChanId) : t.meter x = (s.reserve.firstConfigured c k).meter x := by simp [State.meter, hmeters]
  refine ⟨hcolour, hfrom.v0, hfrom.v1, hfrom.v2, hfrom.slope, hfrom.lowLevel, hfrom.tolerance, hfrom.quantumMl,
    hfrom.intervalS, hfrom.reauth, congrArg BitVec.toNat hfrom.nonGenuine, congrArg BitVec.toNat hfrom.refill,
    congrArg BitVec.toNat hfrom.restartMode, hfrom.probeRef, hfrom.probeMs, hfrom.switchTens, ?_, ?_, fun b hb => ?_,
    fun b hb => ?_, fun x hx => ?_, fun x hx => ?_, hans, k.block_length, ?_⟩
  · rw [hchan']
    simp [State.enterStarved, Channel.starve, hu, State.chan_firstConfigured]
  · rw [hmeter]
    simp [State.meter_firstConfigured, Settings.model]
  · subst hb
    rw [hbays, ← sideBay_bayChan b, hbay]
    rfl
  · rw [hbays, hbay' b hb]
    rfl
  · rw [hchan']
    simp [State.enterStarved, State.chan_setChan_ne _ hx, hu, State.chan_firstConfigured_ne k hx]
  · rw [hmeter]
    simp [State.meter_firstConfigured_ne k hx]
  · rw [hout, State.enterStarved, State.raise_eq, hup.eq]
    rfl

end Sys2Proof.Machine

/-! The host link: bad frames, the intake, refusals at once, and the transmitter (R150 to R153, R156, R158, R172). -/

namespace Sys2Proof.Machine

variable {s t u : State}

/-! ## The counters of the link (R166) -/

/-- A 16-bit counter that one more event lifts, saturating at 65535, with its half-scale flag (R166). -/
def Counter.afterWide (c : Counter) : Counter := ⟨min 65535 (c.value + 1), c.half || c.value == 32767⟩

theorem Counter.bump_eq_afterWide (c : Counter) : c.bump max16 half16 = c.afterWide := by
  have hlifts : c.lifts max16 half16 = (c.value == 32767 && !c.half) := by
    simp only [Counter.lifts, max16, half16]
    by_cases h : c.value = 32767
    · simp [h]
    · have hne : (c.value == 32767) = false := by simpa using h
      simp [hne]
  unfold Counter.bump Counter.afterWide
  rw [hlifts]
  cases c.half <;> simp [max16]

/-- `t` is `s` with the link `li`, but for notices. -/
structure LinkIs (s : State) (li : LinkUnit) (t : State) : Prop where
  out : s.sameOutsideLink t
  notes : NoteOnly li t.link

theorem LinkIs.refl (s : State) : LinkIs s s.link s := ⟨rfl, NoteOnly.refl _⟩

theorem LinkIs.raiseIf {li : LinkUnit} (h : LinkIs s li t) (l : Bool) (sc : Scope) : LinkIs s li (t.raiseIf l sc) := by
  refine ⟨?_, h.notes.raiseIf l sc⟩
  rw [State.sameOutsideLink, State.raiseIf_eq, h.out]

theorem LinkIs.setLink (s : State) (li : LinkUnit) : LinkIs s li { s with link := li } := ⟨rfl, NoteOnly.refl _⟩

theorem State.bumpBadFrames_spec : LinkIs s { s.link with badFrames := s.link.badFrames.afterWide } s.bumpBadFrames := by
  rw [← Counter.bump_eq_afterWide]
  exact (LinkIs.setLink s _).raiseIf _ _

theorem State.bumpDropped_spec :
    LinkIs s { s.link with droppedRefusals := s.link.droppedRefusals.afterWide } s.bumpDropped := by
  rw [← Counter.bump_eq_afterWide]
  exact (LinkIs.setLink s _).raiseIf _ _

theorem State.bumpIgnored_spec :
    LinkIs s { s.link with ignoredEntries := s.link.ignoredEntries.afterWide } s.bumpIgnored := by
  rw [← Counter.bump_eq_afterWide]
  exact (LinkIs.setLink s _).raiseIf _ _

/-- What the transmitter then does is of notices and frames alone. -/
theorem LinkIs.transmit {li : LinkUnit} (h : LinkIs s li t) :
    s.sameOutsideLink t.transmit ∧ li.onlyNotices t.transmit.link := by
  refine ⟨?_, State.noteOnly_transmit h.notes⟩
  rw [State.sameOutsideLink, State.transmit_eq, h.out]

/-- A transmitter with nothing to begin does nothing (R156). -/
theorem State.transmit_of_busy (h : s.transmitterBusy) : s.transmit = s := by
  unfold State.transmit
  split
  · rfl
  · next htx =>
    obtain ⟨hr, hn⟩ := h htx
    simp [hr, hn]

/-! ## Bad frames (R150 to R152) -/

theorem State.abandonFrame_spec :
    LinkIs s { s.link with framer := .hunting, badFrames := s.link.badFrames.afterWide } s.abandonFrame := by
  obtain ⟨hout, hnotes⟩ := (s.setFramer .hunting).bumpBadFrames_spec
  exact ⟨hout, hnotes⟩

/-- A frame with a wrong CRC is abandoned. -/
theorem State.takeFrame_bad {f : HostFrame} (h : f.crc ≠ frameCrc f) :
    (s.setFramer .hunting).takeFrame f = s.abandonFrame := by
  simp [State.takeFrame, h.symm, State.abandonFrame]

/-- Settles O38: each of the four is the abandoning of a frame, at the clock of the event. -/
theorem badFramesAreCounted : Obligations.BadFramesAreCounted := by
  intro s hup
  rw [← State.up_iff] at hup
  refine ⟨fun c hc => ?_, fun c hc hf hbusy => ?_⟩
  · have hexec : ∃ n, exec c s = .next (State.abandonFrame { s with now := n }).transmit := by
      obtain ⟨f, rfl, hlen | hcrc⟩ | ⟨rfl | rfl, bs, at', hf⟩ := hc
      · exact ⟨s.now, by simp [exec, execFrameReceived, hup, Config.maxPayload, hlen]⟩
      · by_cases hlen : Config.maxPayload < f.payload.length
        · exact ⟨s.now, by simp [exec, execFrameReceived, hup, hlen]⟩
        · exact ⟨s.now, by simp [exec, execFrameReceived, hup, hlen, State.takeFrame_bad hcrc]⟩
      · exact ⟨s.now, by simp [exec, execLinkFramingError, hup, State.lineBreak, hf]⟩
      · exact ⟨_, by
          simp [exec, execLinkGapTimeout, hup, State.lineBreak, State.advanceGap, hf, State.advanceTo]
          rfl⟩
    obtain ⟨n, hexec⟩ := hexec
    obtain ⟨hout, hlink, hframes⟩ := (State.abandonFrame_spec (s := { s with now := n })).transmit
    refine ⟨_, hexec, ?_⟩
    generalize State.transmit _ = t at hout hlink hframes
    have hnow : t.now = n := (congrArg State.now hout :)
    refine ⟨(congrArg LinkUnit.framer hlink :), (congrArg LinkUnit.badFrames hlink :), ?_, hframes,
      (congrArg LinkUnit.droppedRefusals hlink :), (congrArg LinkUnit.ignoredEntries hlink :), ?_⟩
    · rw [LinkUnit.onlyReceived, hlink]
    · rw [hnow]
      exact hout
  · obtain rfl | rfl := hc
    · simp [exec, execLinkFramingError, State.lineBreak, hf, State.transmit_of_busy hbusy]
    · simp [exec, execLinkGapTimeout, State.lineBreak, State.advanceGap, hf, State.transmit_of_busy hbusy]

/-! ## Requests (R152, R153) -/

theorem Req.ofCode_code (r : Req) : Req.ofCode r.code = some r := by cases r <;> rfl

theorem Req.code_ne_report (r : Req) : r.code ≠ dropReportKind := by cases r <;> decide

theorem Req.ofCode_none {k : Byte} (h : ∀ r : Req, k ≠ r.code) : Req.ofCode k = none := by
  simp only [Req.ofCode, List.find?_eq_none]
  intro r _
  simpa using (h r).symm

theorem exec_frameReceived {f : HostFrame} (hup : s.phase ≠ .inReset) (hlen : f.payload.length ≤ 240) :
    exec (.frameReceived f) s = .next ((s.setFramer .hunting).takeFrame f).transmit := by
  have hmax : ¬ Config.maxPayload < f.payload.length := Nat.not_lt.mpr hlen
  simp only [exec, execFrameReceived, s.up_iff.mpr hup, if_true, if_neg hmax]

/-! A complete frame with a right CRC (R152). -/

section
variable {f : HostFrame} (hcrc : f.crc = frameCrc f)
include hcrc

theorem State.takeFrame_report (h : f.kind = dropReportKind) : s.takeFrame f = s.takeReport f.payload := by
  rw [State.takeFrame, if_neg (fun k => k hcrc.symm), if_pos h]

theorem State.takeFrame_request {r : Req} (h : f.kind = r.code) :
    s.takeFrame f = if r.admits f.payload.length then s.offer f else s.answerNow f.kind f.tag .badLength := by
  have hcode : Req.ofCode f.kind = some r := h ▸ r.ofCode_code
  rw [State.takeFrame, if_neg (fun k => k hcrc.symm), if_neg (h ▸ r.code_ne_report), hcode]

theorem State.takeFrame_unknown (h : f.kind ≠ dropReportKind) (hno : ∀ r : Req, f.kind ≠ r.code) :
    s.takeFrame f = s.answerNow f.kind f.tag .unknownKind := by
  rw [State.takeFrame, if_neg (fun k => k hcrc.symm), if_neg h, Req.ofCode_none hno]

end

/-- An answer at once: a reply while a place is free, else a count (R155). -/
theorem State.answerNow_spec (kind tag : Byte) (r : Result) :
    LinkIs s (if s.link.placesTaken < 5 then { s.link with replies := s.link.replies ++ [⟨tag, [kind, r.code], false⟩] }
      else { s.link with droppedRefusals := s.link.droppedRefusals.afterWide }) (s.answerNow kind tag r) := by
  unfold State.answerNow
  by_cases h : s.link.placesTaken < 5
  · have hplace : s.link.hasPlace = true := decide_eq_true h
    rw [if_pos h, if_pos hplace]
    exact LinkIs.setLink s _
  · have hplace : ¬ s.link.hasPlace = true := fun k => h (of_decide_eq_true k)
    rw [if_neg h, if_neg hplace]
    exact State.bumpDropped_spec

/-- Settles O39. -/
theorem requestJoinsTheIntakeOrIsRefused : Obligations.RequestJoinsTheIntakeOrIsRefused := by
  intro s f hup hlen hcrc
  have hexec := exec_frameReceived hup hlen
  refine ⟨fun r hr hadmits hroom => ?_, fun x hx => ?_⟩
  · have hoffer : (s.setFramer .hunting).offer f = { s with link := { s.link with
        framer := .hunting, intake := s.link.intake ++ [⟨f.kind, f.tag, f.payload⟩] } } :=
      if_pos hroom
    rw [State.takeFrame_request hcrc hr, if_pos hadmits, hoffer] at hexec
    obtain ⟨hout, hlink, hframes⟩ := (LinkIs.setLink s { s.link with
        framer := .hunting, intake := s.link.intake ++ [⟨f.kind, f.tag, f.payload⟩] }).transmit
    exact ⟨_, hexec, (congrArg LinkUnit.intake hlink :), hframes, (congrArg LinkUnit.framer hlink :),
      (congrArg LinkUnit.waiting hlink :), (congrArg LinkUnit.badFrames hlink :), hout⟩
  · have hans : exec (.frameReceived f) s = .next ((s.setFramer .hunting).answerNow f.kind f.tag x).transmit := by
      rw [hexec]
      obtain ⟨rfl, r, hr, hadmits, hfull⟩ | ⟨rfl, r, hr, hadmits⟩ | ⟨rfl, hne, hno⟩ := hx
      · have hoffer : (s.setFramer .hunting).offer f = (s.setFramer .hunting).answerNow f.kind f.tag .full :=
          if_neg (Nat.not_lt.mpr hfull)
        rw [State.takeFrame_request hcrc hr, if_pos hadmits, hoffer]
      · rw [State.takeFrame_request hcrc hr, if_neg (by simp [hadmits])]
      · rw [State.takeFrame_unknown hcrc hne hno]
    obtain ⟨hout, hlink, hframes⟩ := ((s.setFramer .hunting).answerNow_spec f.kind f.tag x).transmit
    refine ⟨_, hans, ?_⟩
    generalize State.transmit _ = t at hout hlink hframes
    by_cases hroom : s.link.placesTaken < 5
    · have hroom' : (s.setFramer .hunting).link.placesTaken < 5 := hroom
      simp only [if_pos hroom'] at hlink hframes
      refine ⟨(congrArg LinkUnit.intake hlink :), (congrArg LinkUnit.framer hlink :), ?_, hout,
        (congrArg LinkUnit.badFrames hlink :), fun _ => ⟨?_, (congrArg LinkUnit.droppedRefusals hlink :)⟩, fun h => ?_⟩
      · rw [LinkUnit.onlyReceived, hlink]
        rfl
      · rw [hframes]
        simp [LinkUnit.replyFrames, State.setFramer, replyKind]
      · omega
    · have hroom' : ¬ (s.setFramer .hunting).link.placesTaken < 5 := hroom
      simp only [if_neg hroom'] at hlink hframes
      refine ⟨(congrArg LinkUnit.intake hlink :), (congrArg LinkUnit.framer hlink :), ?_, hout,
        (congrArg LinkUnit.badFrames hlink :), fun h => absurd h hroom, fun _ => ⟨hframes, ?_⟩⟩
      · rw [LinkUnit.onlyReceived, hlink]
        rfl
      · exact (congrArg (fun li => li.droppedRefusals.value) hlink :)

/-! ## The transmitter (R156, R158) -/

/-- A drained notice is of its flag's kind and subject (R158). -/
theorem State.drainedNotice_key (f : BacklogFlag) : (s.drainedNotice f).key = f.key := by
  unfold State.drainedNotice
  dsimp only
  split <;> next h => rw [h]; first | rfl | (split <;> rfl)

theorem State.drain_nil (h : s.link.backlog = []) : s.drain = s := by simp [State.drain, h]

theorem State.drain_cons {f : BacklogFlag} {fs : List BacklogFlag} (h : s.link.backlog = f :: fs) :
    s.drain = { s with link := { s.link with
      backlog := fs, notices := s.link.notices ++ [s.drainedNotice f] } } := by
  simp [State.drain, h]

/-- The oldest notice is being sent, its place in the queue free. -/
def State.noticeBegun (s : State) (n : Notice) (ns : List Notice) : State :=
  { s with link := { s.link with
      notices := ns, noticeSeq := s.link.noticeSeq + 1
      tx := some ⟨hostFrameBytes n.kindCode s.link.noticeSeq (s.noticePayload n), true, false⟩ } }

/-- With no reply waiting the transmitter, idle again, begins the oldest notice (R156). -/
theorem State.transmit_notice {n : Notice} {ns : List Notice} (hr : s.link.replies = []) (hn : s.link.notices = n :: ns) :
    State.transmit { s with link := { s.link with tx := none } } = (s.noticeBegun n ns).drain := by
  have hpay : State.noticePayload { s with link := { s.link with tx := none } } n = s.noticePayload n := by
    cases n <;> rfl
  simp [State.transmit, State.noticeBegun, hr, hn, ← hpay]

theorem exec_linkFrameSent {f : TxFrame} (h : s.link.tx = some f) (hr : f.restart = false) :
    exec .linkFrameSent s = .next (State.transmit { s with link := { s.link with tx := none } }) := by
  simp [exec, execLinkFrameSent, h, hr]

/-- Settles O42. -/
theorem transmitterSendsTheNextFrame : Obligations.TransmitterSendsTheNextFrame := by
  intro s f htx
  refine ⟨fun r rs hr hreplies => ?_, fun n ns hr hreplies hnotices => ?_, fun hr hreplies hnotices => ?_,
    fun hr hup => ?_⟩
  · rw [exec_linkFrameSent htx hr]
    simp [State.transmit, hreplies, replyKind]
  · refine ⟨_, exec_linkFrameSent htx hr, ?_⟩
    cases hb : s.link.backlog with
    | nil =>
      rw [State.transmit_notice hreplies hnotices, State.drain_nil (s := s.noticeBegun n ns) hb]
      exact ⟨rfl, rfl, fun _ => ⟨rfl, hb⟩, fun _ _ h => absurd h (by simp), rfl, rfl⟩
    | cons k ks =>
      rw [State.transmit_notice hreplies hnotices, State.drain_cons (s := s.noticeBegun n ns) hb]
      refine ⟨rfl, rfl, fun h => absurd h (by simp), fun k' ks' h => ?_, rfl, rfl⟩
      cases h
      exact ⟨rfl, _, State.drainedNotice_key k, rfl⟩
  · rw [exec_linkFrameSent htx hr]
    simp [State.transmit, hreplies, hnotices]
  · have hexec : exec .linkFrameSent s =
        .next (State.beginReset { s with link := { s.link with tx := none } } .restart).endReset := by
      simp [exec, execLinkFrameSent, htx, hr]
    refine ⟨_, hexec, rfl, ?_, rfl, rfl, rfl, rfl, rfl, rfl, fun b => ?_, rfl, fun hsaving => ?_⟩
    · simp [State.endReset, State.beginReset, hup]
    · simp [State.endReset, State.bay, State.beginReset, State.reset, Config.debounceUs]
    · simp [State.endReset, State.beginReset, hsaving, Store.cut]

end Sys2Proof.Machine

/-! The bytes of a frame (R151), and drop reports (R68 to R70). -/

namespace Sys2Proof.Machine

variable {s t u : State}

/-! ## Byte orders -/

theorem leNat_leBytes (k v : Nat) : leNat (leBytes k v) = v % 256 ^ k := by
  induction k generalizing v with
  | zero => simp [leBytes, leNat, Nat.mod_one]
  | succ k ih =>
    rw [leBytes, leNat, ih, Nat.pow_succ', Nat.mod_mul]
    simp

theorem beNat_beBytes (k v : Nat) : beNat (beBytes k v) = v % 256 ^ k := by simp [beNat, beBytes, leNat_leBytes]

/-! ## A frame byte by byte (R151) -/

theorem sentBytes_length (f : HostFrame) : (sentBytes f).length = f.payload.length + 5 := by
  simp [sentBytes]

/-- The bytes after the start byte spell the frame. -/
theorem frameOf_sentBytes (f : HostFrame) : frameOf (sentBytes f) = f := by
  have hlen := sentBytes_length f
  have hpay : slice (sentBytes f) 3 ((sentBytes f).length - 5) = f.payload := by
    rw [hlen, slice]
    show List.take _ (f.payload ++ beBytes 2 f.crc.toNat) = _
    simp
  have hcrc : (sentBytes f).drop ((sentBytes f).length - 2) = beBytes 2 f.crc.toNat := by
    have hsplit : sentBytes f = (u8 f.payload.length :: f.kind :: f.tag :: f.payload) ++ beBytes 2 f.crc.toNat := rfl
    rw [hlen, hsplit, List.drop_left' (by simp)]
  have hfits : f.crc.toNat % 256 ^ 2 = f.crc.toNat := Nat.mod_eq_of_lt f.crc.isLt
  unfold frameOf
  rw [hpay, hcrc, beNat_beBytes, hfits]
  cases f
  simp [sentBytes, byteAt]

/-- A byte of a frame while its transmitter has nothing to begin. -/
theorem exec_receivedByte {x : Byte} (hup : s.phase ≠ .inReset) (h : (s.receiveByte x).transmitterBusy) :
    exec (.receivedByte x) s = .next (s.receiveByte x) := by
  simp [exec, execReceivedByte, s.up_iff.mpr hup, State.transmit_of_busy h]

/-- The bytes that are left of a frame, received in turn, have the effect of the whole frame. -/
theorem feedBytes_assembling {f : HostFrame} (hup : s.phase ≠ .inReset) (hbusy : s.transmitterBusy)
    (hlen : f.payload.length ≤ 240) (left : List Byte) :
    ∀ (done : List Byte) (y : Nat), left ≠ [] → done ++ left = sentBytes f →
      feedBytes left (s.setFramer (.assembling done y)) = .next ((s.setFramer .hunting).takeFrame f).transmit := by
  induction left with
  | nil => intro _ _ h; exact absurd rfl h
  | cons x left ih =>
    intro done y _ hall
    have hall' : (done ++ [x]) ++ left = sentBytes f := by simpa using hall
    have hcount : (done ++ [x]).length + left.length = f.payload.length + 5 := by
      rw [← sentBytes_length f, ← hall']
      exact List.length_append.symm
    have hfirst : (byteAt (done ++ [x]) 0).toNat = f.payload.length := by
      have hhead : byteAt (done ++ [x]) 0 = byteAt (sentBytes f) 0 := by
        rw [← hall']
        cases done <;> rfl
      rw [hhead]
      simp [sentBytes, u8, byteAt]
      omega
    have hstep : exec (.receivedByte x) (s.setFramer (.assembling done y)) =
        .next ((s.setFramer (.assembling done y)).assemble (done ++ [x])).transmit := by
      have hup' : (s.setFramer (.assembling done y)).up = true := s.up_iff.mpr hup
      simp only [exec, execReceivedByte, hup', if_true]
      rfl
    have hmax : ¬ Config.maxPayload < f.payload.length := Nat.not_lt.mpr hlen
    rw [feedBytes, hstep]
    simp only [State.assemble, hfirst, if_neg hmax]
    cases left with
    | nil =>
      have hfull : (done ++ [x]).length = f.payload.length + 5 := by simpa using hcount
      have hf : frameOf (done ++ [x]) = f := by
        rw [List.append_nil] at hall'
        rw [hall', frameOf_sentBytes]
      rw [if_pos hfull, hf]
      rfl
    | cons x' left =>
      have hpart : ¬ (done ++ [x]).length = f.payload.length + 5 := by
        simp at hcount ⊢
        omega
      rw [if_neg hpart, State.transmit_of_busy]
      · exact ih _ _ (by simp) hall'
      · exact hbusy

/-- Settles O41. -/
theorem bytesSpellTheFrame : Obligations.BytesSpellTheFrame := by
  intro s x hup hbusy
  have hnext (z : Byte) (hz : (s.receiveByte z).transmitterBusy) := exec_receivedByte hup hz
  refine ⟨fun f hf hlen => ?_, fun hf => ?_, fun at' hf => ⟨fun hx => ?_, fun hx => ?_⟩, fun len bs at' hf hlen hpart => ?_⟩
  · have hstart : s.receiveByte 0xA5 = s.setFramer (.assembling [] s.now) := by simp [State.receiveByte, hf]
    have hmax : ¬ Config.maxPayload < f.payload.length := Nat.not_lt.mpr hlen
    rw [feedBytes, hnext _ (by rw [hstart]; exact hbusy), hstart]
    simp only [exec, execFrameReceived, s.up_iff.mpr hup, if_true, if_neg hmax]
    exact feedBytes_assembling hup hbusy hlen _ _ _ (by simp [sentBytes]) rfl
  · have hrec : s.receiveByte x =
        if x = 0xA5 then { s with link := { s.link with framer := .assembling [] s.now } } else s := by
      simp [State.receiveByte, hf, State.setFramer]
    rw [hnext _ (by rw [hrec]; split <;> exact hbusy), hrec]
  · have hmax : ¬ Config.maxPayload < x.toNat := Nat.not_lt.mpr hx
    have hrec : s.receiveByte x = { s with link := { s.link with framer := .assembling [x] s.now } } := by
      simp [State.receiveByte, hf, State.assemble, hmax, State.setFramer]
    rw [hnext _ (by rw [hrec]; exact hbusy), hrec]
  · have hmax : Config.maxPayload < x.toNat := hx
    have hrec : s.receiveByte x = s.abandonFrame := by
      simp [State.receiveByte, hf, State.assemble, hmax]
    obtain ⟨hout, hlink, -⟩ := (s.abandonFrame_spec).transmit
    refine ⟨s.abandonFrame.transmit, ?_, (congrArg LinkUnit.framer hlink :), ?_, hout⟩
    · simp [exec, execReceivedByte, s.up_iff.mpr hup, hrec]
    · exact (congrArg (fun li => li.badFrames.value) hlink :)
  · have hmax : ¬ Config.maxPayload < len.toNat := Nat.not_lt.mpr hlen
    have hne : bs.length ≠ len.toNat + 3 := by omega
    have hrec : s.receiveByte x = { s with link := { s.link with framer := .assembling (len :: bs ++ [x]) s.now } } := by
      simp [State.receiveByte, hf, State.assemble, hmax, hne, State.setFramer]
    rw [hnext _ (by rw [hrec]; exact hbusy), hrec]

/-! ## The entries of a report (R68) -/

theorem reportNames_eq_false {r : List DropEntry} {c : ChanId} :
    reportNames r c = false ↔ ∀ e ∈ r, e.chan ≠ c := by
  simp [reportNames]

theorem reportNames_iff {r : List DropEntry} {c : ChanId} : reportNames r c = true ↔ ∃ e ∈ r, e.chan = c := by
  simp [reportNames]

theorem keepLast_cons (e : DropEntry) (r : List DropEntry) :
    keepLast (e :: r) = if r.any (fun x => x.chan == e.chan) then keepLast r else e :: keepLast r := rfl

theorem keepLast_sublist (r : List DropEntry) : (keepLast r).Sublist r := by
  induction r with
  | nil => exact .slnil
  | cons e r ih =>
    rw [keepLast_cons]
    split
    · exact ih.cons e
    · exact ih.cons_cons e

theorem keepLast_nodup (r : List DropEntry) : ((keepLast r).map (fun e => e.chan)).Nodup := by
  induction r with
  | nil => simp [keepLast]
  | cons e r ih =>
    rw [keepLast_cons]
    split
    · exact ih
    · next h =>
      rw [List.map_cons, List.nodup_cons]
      refine ⟨fun hmem => h ?_, ih⟩
      obtain ⟨x, hx, hxe⟩ := List.mem_map.mp hmem
      exact List.any_eq_true.mpr ⟨x, (keepLast_sublist r).subset hx, by simp [hxe]⟩

/-- The entry kept of a channel is the last one that names it. -/
theorem find_keepLast (r : List DropEntry) (c : ChanId) :
    (keepLast r).find? (fun e => e.chan == c) = r.reverse.find? (fun e => e.chan == c) := by
  induction r with
  | nil => rfl
  | cons e r ih =>
    rw [List.reverse_cons, List.find?_append, ← ih, keepLast_cons]
    split
    · next h =>
      obtain ⟨x, hx, hxe⟩ := List.any_eq_true.mp h
      by_cases hc : e.chan = c
      · have hfound : ((keepLast r).find? (fun e => e.chan == c)).isSome = true := by
          rw [ih, List.find?_isSome]
          exact ⟨x, List.mem_reverse.mpr hx, by rw [← hc]; exact hxe⟩
        exact (Option.or_of_isSome hfound).symm
      · simp [hc]
    · next h =>
      by_cases hc : e.chan = c
      · have hnone : (keepLast r).find? (fun e => e.chan == c) = none := by
          rw [ih, List.find?_eq_none]
          intro x hx hxc
          have hxc : x.chan = e.chan := by rw [hc]; simpa using hxc
          exact h (List.any_eq_true.mpr ⟨x, List.mem_reverse.mp hx, by simp [hxc]⟩)
        simp [hc, hnone]
      · simp [hc]

theorem keepLast_of_nodup {r : List DropEntry} (h : (r.map (fun e => e.chan)).Nodup) : keepLast r = r := by
  induction r with
  | nil => rfl
  | cons e r ih =>
    rw [List.map_cons, List.nodup_cons] at h
    obtain ⟨hne, hnodup⟩ := h
    have hno : ¬ r.any (fun x => x.chan == e.chan) = true := fun hany => by
      obtain ⟨x, hx, hxe⟩ := List.any_eq_true.mp hany
      exact hne (List.mem_map.mpr ⟨x, hx, by simpa using hxe⟩)
    rw [keepLast, if_neg hno, ih hnodup]

/-! ## Merging a report into a queued one (R70) -/

theorem replacement_chan (arriving : List DropEntry) (e : DropEntry) : (replacement arriving e).chan = e.chan := by
  unfold replacement
  split
  · next x h => simpa using List.find?_some h
  · rfl

/-- The merged report has a channel's entry of the arriving report, else that of the queued one. -/
theorem find_mergeReport (queued arriving : List DropEntry) (c : ChanId) :
    (mergeReport queued arriving).find? (fun e => e.chan == c) =
      (arriving.find? (fun e => e.chan == c)).or (queued.find? (fun e => e.chan == c)) := by
  have hmap : (queued.map (replacement arriving)).find? (fun e => e.chan == c) =
      (queued.find? (fun e => e.chan == c)).map (replacement arriving) := by
    rw [List.find?_map]
    congr 2
    funext e
    simp [replacement_chan]
  rw [mergeReport, List.find?_append, hmap]
  cases hq : queued.find? (fun e => e.chan == c) with
  | some e =>
    have hec : e.chan = c := by simpa using List.find?_some hq
    cases ha : arriving.find? (fun x => x.chan == c) with
    | some x => simp [replacement, hec, ha]
    | none => simp [replacement, hec, ha]
  | none =>
    have hno : reportNames queued c = false := by simpa [reportNames] using hq
    rw [List.find?_filter]
    simp only [Option.map_none, Option.none_or, Option.or_none]
    congr 1
    funext e
    by_cases hec : e.chan = c
    · simp [hec, hno]
    · simp [hec]

/-! ## A drop report is taken (R68 to R70) -/

/-- `n` entries of no channel are counted. -/
theorem State.bumpIgnored_repeat (h : s.link.ignoredEntries.value ≤ 65535) (n : Nat) :
    ∃ k : Counter, k.value = min 65535 (s.link.ignoredEntries.value + n) ∧
      LinkIs s { s.link with ignoredEntries := k } (Nat.repeat State.bumpIgnored n s) := by
  induction n with
  | zero => exact ⟨s.link.ignoredEntries, by omega, LinkIs.refl s⟩
  | succ n ih =>
    obtain ⟨k, hk, hout, hnotes⟩ := ih
    obtain ⟨hout', hnotes'⟩ := (Nat.repeat State.bumpIgnored n s).bumpIgnored_spec
    have hignored : (Nat.repeat State.bumpIgnored n s).link.ignoredEntries = k :=
      (congrArg LinkUnit.ignoredEntries hnotes.eq :)
    rw [hignored] at hnotes'
    refine ⟨k.afterWide, ?_, ?_, NoteOnly.trans ⟨?_⟩ hnotes'⟩
    · simp only [Counter.afterWide, hk]
      omega
    · rw [State.sameOutsideLink, Nat.repeat, hout', hout]
    · rw [hnotes.eq]

/-- A report whose entries all name no channel is discarded, its entries counted. -/
theorem State.takeReport_of_none {p : List Byte} {es : List (Option DropEntry)} (h : readReport p = some es)
    (hr : keepLast (es.filterMap id) = []) :
    s.takeReport p = Nat.repeat State.bumpIgnored (es.countP Option.isNone) s := by
  simp only [State.takeReport, h, hr]

/-- What is left of a report is queued, its entries of no channel counted. -/
theorem State.takeReport_of_some {p : List Byte} {es : List (Option DropEntry)} (h : readReport p = some es)
    (hr : keepLast (es.filterMap id) ≠ []) :
    s.takeReport p =
      (Nat.repeat State.bumpIgnored (es.countP Option.isNone) s).queueReport (keepLast (es.filterMap id)) := by
  rw [State.takeReport, h]
  dsimp only
  split
  · next hk => exact absurd hk hr
  · rfl

theorem filterMap_map_some (r : List DropEntry) : (r.map some).filterMap id = r := by
  induction r with
  | nil => rfl
  | cons e r ih => simp

theorem countP_map_some (r : List DropEntry) : (r.map some).countP Option.isNone = 0 := by
  simp [List.countP_eq_zero]

/-- A report of twelve channels' entries, each channel named once, is queued as it is. -/
theorem State.takeReport_of_nodup {p : List Byte} {r : List DropEntry} (hr : r ≠ [])
    (h : readReport p = some (r.map some)) (hnodup : (r.map (fun e => e.chan)).Nodup) :
    s.takeReport p = s.queueReport r := by
  have hkeep : keepLast ((r.map some).filterMap id) = r := by rw [filterMap_map_some, keepLast_of_nodup hnodup]
  rw [State.takeReport_of_some h (by rwa [hkeep]), hkeep, countP_map_some, Nat.repeat]

theorem State.queueReport_of_room (h : s.meterQueue.length < 16) (r : List DropEntry) :
    s.queueReport r = State.refillHand { s with meterQueue := s.meterQueue ++ [r] } := if_pos h

theorem State.refillHand_of_hand (h : s.meterHand ≠ []) : s.refillHand = s := by
  unfold State.refillHand
  split
  · rfl
  · next hnil => exact absurd hnil h

theorem State.refillHand_of_queue {r : List DropEntry} {rs : List (List DropEntry)} (h : s.meterHand = [])
    (hq : s.meterQueue = r :: rs) : s.refillHand = { s with meterHand := r, meterQueue := rs } := by
  simp [State.refillHand, h, hq]

theorem State.refillHand_eq : s.refillHand = { s with
    meterHand := s.refillHand.meterHand, meterQueue := s.refillHand.meterQueue } := by
  unfold State.refillHand
  repeat' split
  all_goals rfl

/-- Taking the oldest report into hand moves no entry. -/
theorem State.refillHand_entries :
    s.refillHand.meterHand ++ s.refillHand.meterQueue.flatten = s.meterHand ++ s.meterQueue.flatten := by
  unfold State.refillHand
  split
  · rfl
  · next h =>
    split
    · rfl
    · next hq => simp [h, hq]

/-- Each entry of the list counts a merge of its channel (R70). -/
theorem State.bumpMerges_foldl (r : List DropEntry) :
    ∀ s : State, (r.map (fun e => e.chan)).Nodup →
      (let t := r.foldl (fun t e => t.bumpMerges e.chan) s
       t = { s with meters := t.meters, link := t.link } ∧ NoteOnly s.link t.link ∧
        ∀ c, t.meter c = { s.meter c with
          merges := if reportNames r c = true then (s.meter c).merges.after else (s.meter c).merges }) := by
  induction r with
  | nil => exact fun s _ => ⟨rfl, NoteOnly.refl _, fun c => by simp [reportNames]⟩
  | cons e r ih =>
    intro s hnodup
    rw [List.map_cons, List.nodup_cons] at hnodup
    obtain ⟨hne, hnodup⟩ := hnodup
    have hstep : s.bumpMerges e.chan = { s with
        meters := (s.bumpMerges e.chan).meters, link := (s.bumpMerges e.chan).link } := by
      have h := State.raiseIf_eq (s := s.modMeter e.chan (fun m => { m with
        merges := (s.meter e.chan).merges.bump max8 half8 })) ((s.meter e.chan).merges.lifts max8 half8) (.chan e.chan)
      have hm : (s.bumpMerges e.chan).meters = (s.modMeter e.chan (fun m => { m with
        merges := (s.meter e.chan).merges.bump max8 half8 })).meters := (congrArg State.meters h :)
      rw [hm]
      exact h
    have hnotes : NoteOnly s.link (s.bumpMerges e.chan).link := NoteOnly.raiseIf (.of_eq (by rfl)) _ _
    have hmeter (c : ChanId) : (s.bumpMerges e.chan).meter c = { s.meter c with
        merges := if c = e.chan then (s.meter c).merges.after else (s.meter c).merges } := by
      have h : (s.bumpMerges e.chan).meter c = (s.modMeter e.chan (fun m => { m with
        merges := (s.meter e.chan).merges.bump max8 half8 })).meter c := by
        unfold State.bumpMerges State.raiseIf
        dsimp only
        split <;> simp
      rw [h]
      by_cases hc : c = e.chan
      · subst hc
        simp [Counter.bump_eq_after]
      · simp [hc, State.meter_modMeter_ne _ hc]
    obtain ⟨heq, hnotes', hmeter'⟩ := ih (s.bumpMerges e.chan) hnodup
    rw [List.foldl_cons]
    refine ⟨?_, hnotes.trans hnotes', fun c => ?_⟩
    · rw [heq, hstep]
    · rw [hmeter', hmeter]
      by_cases hc : c = e.chan
      · have hno : reportNames r c = false := reportNames_eq_false.mpr fun x hx hxc =>
          hne (List.mem_map.mpr ⟨x, hx, by rw [hxc, hc]⟩)
        have hyes : reportNames (e :: r) c = true := reportNames_iff.mpr ⟨e, by simp, hc.symm⟩
        simp [hc ▸ hno, hc ▸ hyes, hc]
      · have hsame : reportNames (e :: r) c = reportNames r c := by
          simp [reportNames, Ne.symm hc]
        simp [hc, hsame]

/-- With the queue full a report is merged into the youngest. -/
theorem State.queueReport_of_full {older : List (List DropEntry)} {young : List DropEntry}
    (h : s.meterQueue = older ++ [young]) (hlen : older.length = 15) (r : List DropEntry) :
    s.queueReport r = (r.filter (fun e => reportNames young e.chan)).foldl (fun t e => t.bumpMerges e.chan)
      { s with meterQueue := older ++ [mergeReport young r] } := by
  have hfull : ¬ s.meterQueue.length < Config.meterCapacity := by
    simp [h, hlen, Config.meterCapacity]
  simp only [State.queueReport, if_neg hfull]
  simp [h]

/-- After a change of the reports, the metering states and the link the transmitter leaves all else. -/
theorem State.transmit_of_reports {h : List DropEntry} {q : List (List DropEntry)} {m : Vector Meter 12} {li : LinkUnit}
    (e : t = { s with meterHand := h, meterQueue := q, meters := m, link := li }) :
    t.transmit = { s with meterHand := h, meterQueue := q, meters := m, link := t.transmit.link } := by
  subst e
  apply State.eq_of_fields <;> simp

/-- Settles O40. -/
theorem dropReportJoinsTheQueue : Obligations.DropReportJoinsTheQueue := by
  intro s f hup hkind hlen hcrc
  have hexec : exec (.frameReceived f) s = .next ((s.setFramer .hunting).takeReport f.payload).transmit := by
    rw [exec_frameReceived hup hlen, State.takeFrame_report hcrc hkind]
  refine ⟨fun r hr hread hnodup hroom => ?_, fun es hread hhand hqueue hle => ?_,
    fun r young older hr hread hnodup hqueue holder => ?_, fun hbad => ?_⟩
  · rw [State.takeReport_of_nodup hr hread hnodup, State.queueReport_of_room (by exact hroom)] at hexec
    let u : State := { s.setFramer .hunting with meterQueue := s.meterQueue ++ [r] }
    have heq : u.refillHand = _ := State.refillHand_eq
    have hentries : u.refillHand.meterHand ++ u.refillHand.meterQueue.flatten = u.meterHand ++ u.meterQueue.flatten :=
      State.refillHand_entries
    have hfill (hh : s.meterHand = []) (hq : s.meterQueue = []) : u.refillHand = { u with meterHand := r, meterQueue := [] } :=
      State.refillHand_of_queue (s := u) hh (by simp [u, hq])
    have hkeep (hh : s.meterHand ≠ []) : u.refillHand = u := State.refillHand_of_hand (s := u) hh
    refine ⟨_, hexec, ?_, ?_, fun hh hq => ?_, fun hh => ?_, ?_, ?_, ?_⟩
    · exact (State.transmit_meters _).trans (congrArg State.meters heq :)
    · rw [State.transmit_meterHand, State.transmit_meterQueue]
      exact hentries.trans (by simp [u, State.setFramer])
    · rw [State.transmit_meterHand, State.transmit_meterQueue]
      exact ⟨(congrArg State.meterHand (hfill hh hq) :), (congrArg State.meterQueue (hfill hh hq) :)⟩
    · rw [State.transmit_meterHand, State.transmit_meterQueue]
      exact ⟨(congrArg State.meterHand (hkeep hh) :), (congrArg State.meterQueue (hkeep hh) :)⟩
    · exact (State.transmit_link_badFrames _).trans (congrArg (fun t => t.link.badFrames) heq :)
    · exact (State.transmit_replyFrames _).trans (congrArg (fun t => t.link.replyFrames) heq :)
    · rw [State.transmit_meterHand, State.transmit_meterQueue]
      exact State.transmit_of_reports heq
  · obtain ⟨k, hk, hout, hnotes⟩ := State.bumpIgnored_repeat (s := s.setFramer .hunting) hle (es.countP Option.isNone)
    have hhand' : (Nat.repeat State.bumpIgnored (es.countP Option.isNone) (s.setFramer .hunting)).meterHand = [] :=
      (congrArg State.meterHand hout :).trans hhand
    have hqueue' : (Nat.repeat State.bumpIgnored (es.countP Option.isNone) (s.setFramer .hunting)).meterQueue = [] :=
      (congrArg State.meterQueue hout :).trans hqueue
    have htake : (s.setFramer .hunting).takeReport f.payload =
        { Nat.repeat State.bumpIgnored (es.countP Option.isNone) (s.setFramer .hunting) with
          meterHand := keepLast (es.filterMap id) } := by
      by_cases hr : keepLast (es.filterMap id) = []
      · rw [State.takeReport_of_none hread hr, hr, ← hhand']
      · rw [State.takeReport_of_some hread hr]
        generalize Nat.repeat State.bumpIgnored _ _ = w at hhand' hqueue'
        rw [State.queueReport_of_room (by simp [hqueue']), hqueue',
          State.refillHand_of_queue (s := { w with meterQueue := [] ++ [keepLast (es.filterMap id)] }) hhand' rfl, ← hqueue']
    rw [htake] at hexec
    refine ⟨_, hexec, ?_⟩
    generalize Nat.repeat State.bumpIgnored _ _ = w at hout hnotes hqueue'
    have hlink := State.noteOnly_transmit (t := { w with meterHand := keepLast (es.filterMap id) }) hnotes
    refine ⟨?_, fun c => ?_, ?_, ?_, ?_, (congrArg LinkUnit.badFrames hlink.1 :), hlink.2, ?_⟩
    · simpa using hqueue'
    · rw [State.transmit_meterHand]
      exact find_keepLast _ c
    · rw [State.transmit_meterHand]
      exact keepLast_nodup _
    · rw [State.transmit_meterHand]
      exact keepLast_sublist _
    · exact (congrArg (fun li => li.ignoredEntries.value) hlink.1 :).trans hk
    · rw [State.transmit_meterHand]
      refine State.transmit_of_reports (q := s.meterQueue) (m := s.meters) (li := w.link) ?_
      rw [hout]
      rfl
  · have hqueue' : (s.setFramer .hunting).meterQueue = older ++ [young] := hqueue
    rw [State.takeReport_of_nodup hr hread hnodup, State.queueReport_of_full hqueue' holder] at hexec
    obtain ⟨heq, hnotes, hmeter⟩ := State.bumpMerges_foldl (r.filter (fun e => reportNames young e.chan))
      { s.setFramer .hunting with meterQueue := older ++ [mergeReport young r] }
      (hnodup.sublist ((List.filter_sublist).map _))
    refine ⟨_, mergeReport young r, hexec, ?_⟩
    generalize List.foldl _ _ _ = w at heq hnotes hmeter
    have hlink := State.noteOnly_transmit hnotes
    refine ⟨?_, fun c => find_mergeReport young r c, fun c => ?_, ?_, (congrArg LinkUnit.badFrames hlink.1 :),
      (congrArg LinkUnit.ignoredEntries hlink.1 :), hlink.2, ?_⟩
    · rw [State.transmit_meterQueue]
      exact (congrArg State.meterQueue heq :)
    · have hboth : reportNames (r.filter (fun e => reportNames young e.chan)) c =
          (r.any (fun e => e.chan == c) && young.any (fun e => e.chan == c)) := by
        rw [Bool.eq_iff_iff, reportNames_iff, Bool.and_eq_true]
        constructor
        · rintro ⟨e, he, rfl⟩
          obtain ⟨her, hey⟩ := List.mem_filter.mp he
          exact ⟨reportNames_iff.mpr ⟨e, her, rfl⟩, hey⟩
        · rintro ⟨hcr, hcy⟩
          obtain ⟨e, her, rfl⟩ := reportNames_iff.mp hcr
          exact ⟨e, List.mem_filter.mpr ⟨her, hcy⟩, rfl⟩
      rw [State.meter_transmit, hmeter c, hboth]
      rfl
    · rw [LinkUnit.onlyReceived, hlink.1]
      rfl
    · rw [State.transmit_meterQueue, State.transmit_meters]
      exact State.transmit_of_reports (h := s.meterHand) (li := w.link) (heq.trans (by rw [heq]; rfl))
  · have hnone : readReport f.payload = none := by
      have h : f.payload.length % 14 ≠ 0 ∨ f.payload.length / 14 = 0 ∨ 12 < f.payload.length / 14 := by omega
      simp only [readReport, if_pos h]
    have htake : (s.setFramer .hunting).takeReport f.payload = s.abandonFrame := by
      simp only [State.takeReport, hnone, State.abandonFrame]
    rw [htake] at hexec
    obtain ⟨hout, hlink, -⟩ := (s.abandonFrame_spec).transmit
    exact ⟨_, hexec, by simp [(congrArg State.meterHand s.abandonFrame_spec.out :)],
      by simp [(congrArg State.meterQueue s.abandonFrame_spec.out :)],
      (congrArg (fun li => li.badFrames.value) hlink :), hout⟩

end Sys2Proof.Machine

/-! The Metering Unit (R73 to R79). -/

namespace Sys2Proof.Machine

variable {s t u : State} {e : DropEntry} {es : List DropEntry}

/-! ## The taking of an entry -/

theorem exec_takeDropEntry (h : s.meterHand = e :: es) :
    exec .takeDropEntry s = .next (State.meterEntry { s with meterHand := es } e).refillHand.transmit := by
  simp [exec, execTakeDropEntry, h]

/-- What an entry left once the next report is in hand and the transmitter has acted. -/
structure Taken (u t : State) : Prop where
  eq : t = { u with meterHand := t.meterHand, meterQueue := t.meterQueue, link := t.link }
  notes : u.link.onlyNotices t.link
  hand : u.meterHand ≠ [] → t.meterHand = u.meterHand ∧ t.meterQueue = u.meterQueue

theorem State.taken (u : State) : Taken u u.refillHand.transmit := by
  have heq := State.refillHand_eq (s := u)
  refine ⟨?_, ?_, fun h => ?_⟩
  · rw [State.transmit_meterHand, State.transmit_meterQueue]
    exact State.transmit_of_reports heq
  · exact State.noteOnly_transmit (.of_eq (congrArg State.link heq :))
  · rw [State.refillHand_of_hand h]
    simp

theorem Taken.meter (h : Taken u t) (c : ChanId) : t.meter c = u.meter c := by
  have hm : t.meters = u.meters := (congrArg State.meters h.eq :)
  simp [State.meter, hm]

/-- A notice raised before the transmitter acts is told. -/
theorem State.told_taken {k : NoticeKey} (h : Told u.link k) (e : u.link.tx = s.link.tx) :
    s.notified u.refillHand.transmit k := by
  have hlink : u.refillHand.link = u.link := (congrArg State.link (State.refillHand_eq (s := u)) :)
  exact State.told_transmit (by rw [hlink]; exact h) (by rw [hlink]; exact e)

/-! ## Restarts and baselines (R73 to R75) -/

theorem isRestart_iff (t base : Totals) : isRestart (t.deltas base) = true ↔
    2 ^ 31 ≤ (t.t0 - base.t0).toNat ∨ 2 ^ 31 ≤ (t.t1 - base.t1).toNat ∨ 2 ^ 31 ≤ (t.t2 - base.t2).toNat := by
  simp only [isRestart, Totals.deltas, dropDelta, Bool.or_eq_true, or_assoc]
  exact or_congr decide_eq_true_iff (or_congr decide_eq_true_iff decide_eq_true_iff)

theorem State.meter_bumpRestarts (c x : ChanId) : (s.bumpRestarts c).meter x =
    (s.modMeter c (fun m => { m with restarts := (s.meter c).restarts.after })).meter x := by
  unfold State.bumpRestarts State.raiseIf
  simp only [Counter.bump_eq_after]
  split <;> simp

/-- Metering states and notices alone differ. -/
structure MetersOnly (s t : State) : Prop where
  eq : t = { s with meters := t.meters, link := t.link }
  notes : NoteOnly s.link t.link

theorem MetersOnly.refl (s : State) : MetersOnly s s := ⟨rfl, NoteOnly.refl _⟩

theorem MetersOnly.setMeter (h : MetersOnly s t) (c : ChanId) (m : Meter) : MetersOnly s (t.setMeter c m) :=
  ⟨by conv_lhs => rw [h.eq]
      rfl, h.notes⟩

theorem MetersOnly.modMeter (h : MetersOnly s t) (c : ChanId) (f : Meter → Meter) : MetersOnly s (t.modMeter c f) :=
  h.setMeter c _

theorem MetersOnly.raise (h : MetersOnly s t) (n : Notice) : MetersOnly s (t.raise n) :=
  ⟨by rw [State.raise_eq, h.eq], h.notes.raise n⟩

theorem MetersOnly.raiseIf (h : MetersOnly s t) (l : Bool) (sc : Scope) : MetersOnly s (t.raiseIf l sc) := by
  unfold State.raiseIf
  split
  · exact h.raise _
  · exact h

/-- Notices raised before what only sends and raises. -/
theorem NoteOnly.onlyNotices {a b c : LinkUnit} (h : NoteOnly a b) (k : b.onlyNotices c) : a.onlyNotices c :=
  ⟨by rw [k.1, h.eq], k.2.trans h.replyFrames⟩

/-- An entry that changes metering states alone. -/
theorem MetersOnly.taken (h : MetersOnly { s with meterHand := es } u) :
    s.link.onlyNotices u.refillHand.transmit.link ∧
      u.refillHand.transmit = { s with
        meterHand := u.refillHand.transmit.meterHand, meterQueue := u.refillHand.transmit.meterQueue
        meters := u.refillHand.transmit.meters, link := u.refillHand.transmit.link } := by
  have htaken := State.taken u
  generalize u.refillHand.transmit = t at htaken
  refine ⟨NoteOnly.onlyNotices (b := u.link) h.notes htaken.notes, ?_⟩
  rw [htaken.eq, h.eq]

/-- A restart changes the metering state of its channel, and notices. -/
theorem State.meterRestart_spec :
    (s.meterRestart e).meter e.chan = { s.meter e.chan with
      base := some e.totals, restarts := (s.meter e.chan).restarts.after } ∧
    (∀ c, c ≠ e.chan → (s.meterRestart e).meter c = s.meter c) ∧ MetersOnly s (s.meterRestart e) ∧
    Told (s.meterRestart e).link (.meter e.chan) := by
  refine ⟨?_, fun c hc => ?_, ?_, State.told_raise _⟩
  · rw [State.meterRestart, State.meter_raise, State.meter_bumpRestarts]
    simp
  · rw [State.meterRestart, State.meter_raise, State.meter_bumpRestarts, State.meter_modMeter_ne _ hc,
      State.meter_modMeter_ne _ hc]
  · exact ((((MetersOnly.refl s).modMeter _ _).modMeter _ _).raiseIf _ _).raise _

/-! ## Metered drops (R76 to R80) -/

/-- The unattributed volume changes nothing else of the metering states (R80). -/
theorem State.addUnattributed_spec (c : ChanId) (n : Nat) :
    (s.addUnattributed c n).meter c = { s.meter c with
      unattributed := min Config.max32 ((s.meter c).unattributed + n) } ∧
    (∀ x, x ≠ c → (s.addUnattributed c n).meter x = s.meter x) ∧ MetersOnly s (s.addUnattributed c n) := by
  unfold State.addUnattributed
  dsimp only
  split
  · exact ⟨by simp, fun x hx => by simp [State.meter_modMeter_ne _ hx], ((MetersOnly.refl s).modMeter _ _).raise _⟩
  · exact ⟨by simp, fun x hx => by simp [State.meter_modMeter_ne _ hx], (MetersOnly.refl s).modMeter _ _⟩

/-- A charge leaves the reports and of the metering states all but an unattributed volume. -/
theorem State.charge_spec (c : ChanId) (n : Nat) :
    (s.charge c n).meter c = { s.meter c with unattributed := ((s.charge c n).meter c).unattributed } ∧
    (∀ x, x ≠ c → (s.charge c n).meter x = s.meter x) ∧ (s.charge c n).meterHand = s.meterHand ∧
    (s.charge c n).meterQueue = s.meterQueue := by
  unfold State.charge
  split
  · next sd _ =>
    have h := (Within.refl s).debit (sideBay c sd) n
    have hm (x : ChanId) : (s.debit (sideBay c sd) n).meter x = s.meter x := by simp [State.meter, h.meters]
    exact ⟨by rw [hm], fun x _ => hm x, h.meterHand, h.meterQueue⟩
  · obtain ⟨h1, h2, h3⟩ := State.addUnattributed_spec (s := s) c n
    exact ⟨by rw [h1], h2, (congrArg State.meterHand h3.eq :), (congrArg State.meterQueue h3.eq :)⟩

theorem State.meterDrops_spec (m : DropModel) (base : Totals) :
    (∃ rt rv ua, (s.meterDrops e m base).meter e.chan = { s.meter e.chan with
      base := some e.totals, rt := rt, rv := rv, unattributed := ua }) ∧
    (∀ x, x ≠ e.chan → (s.meterDrops e m base).meter x = s.meter x) ∧
    (s.meterDrops e m base).meterHand = s.meterHand ∧ (s.meterDrops e m base).meterQueue = s.meterQueue := by
  unfold State.meterDrops
  extract_lets v scaled n s1
  have hs1 : s1.meter e.chan = v.advance e.totals scaled := by simp [s1]
  have hne (x : ChanId) (hx : x ≠ e.chan) : s1.meter x = s.meter x := s.meter_setMeter_ne hx _
  split
  · exact ⟨⟨_, _, _, hs1⟩, hne, rfl, rfl⟩
  · obtain ⟨h1, h2, h3, h4⟩ := State.charge_spec (s := s1) e.chan n
    rw [hs1] at h1
    exact ⟨⟨_, _, _, h1⟩, fun x hx => (h2 x hx).trans (hne x hx), h3, h4⟩

/-- Settles O36. -/
theorem dropEntryMovesTheBaseline : Obligations.DropEntryMovesTheBaseline := by
  intro s e es hhand
  have hexec := exec_takeDropEntry hhand
  refine ⟨fun hmodel => ?_, fun m hmodel hbase => ?_, fun m base hmodel hbase hre => ?_,
    fun m base hmodel hbase h0 h1 h2 => ?_⟩
  · have hentry : State.meterEntry { s with meterHand := es } e = State.bumpIgnored { s with meterHand := es } := by
      rw [State.meterEntry, show (State.meter { s with meterHand := es } e.chan).model = none from hmodel]
    rw [hentry] at hexec
    obtain ⟨hout, hnotes⟩ := State.bumpIgnored_spec (s := { s with meterHand := es })
    generalize State.bumpIgnored _ = u at hout hnotes hexec
    have htaken := State.taken u
    refine ⟨_, hexec, ?_⟩
    generalize u.refillHand.transmit = t at htaken
    have heq : t = { s with meterHand := t.meterHand, meterQueue := t.meterQueue, link := t.link } := by
      rw [htaken.eq, hout]
    have hcount : t.link.ignoredEntries = s.link.ignoredEntries.afterWide :=
      (congrArg LinkUnit.ignoredEntries htaken.notes.1 :).trans (congrArg LinkUnit.ignoredEntries hnotes.eq :)
    have huhand : u.meterHand = es := (congrArg State.meterHand hout :)
    have huqueue : u.meterQueue = s.meterQueue := (congrArg State.meterQueue hout :)
    refine ⟨(congrArg State.meters heq :), by rw [hcount]; rfl, (congrArg State.bays heq :),
      (congrArg State.chans heq :), heq, fun hne => ?_⟩
    rw [← huqueue, ← huhand]
    exact htaken.hand (by rwa [huhand])
  · have hentry : State.meterEntry { s with meterHand := es } e =
        State.modMeter { s with meterHand := es } e.chan (fun m => { m with base := some e.totals }) := by
      rw [State.meterEntry, show (State.meter { s with meterHand := es } e.chan).model = some m from hmodel]
      dsimp only
      rw [show (State.meter { s with meterHand := es } e.chan).base = none from hbase]
    rw [hentry] at hexec
    have hmeter := State.meter_modMeter { s with meterHand := es } e.chan (fun m => { m with base := some e.totals })
    have hne (c : ChanId) (hc : c ≠ e.chan) :=
      State.meter_modMeter_ne { s with meterHand := es } hc (fun m => { m with base := some e.totals })
    have honly := (MetersOnly.refl { s with meterHand := es }).modMeter e.chan (fun m => { m with base := some e.totals })
    generalize State.modMeter _ _ _ = u at hmeter hne hexec honly
    obtain ⟨hnotes, heq⟩ := honly.taken
    have htaken := State.taken u
    exact ⟨_, hexec, (htaken.meter _).trans hmeter, fun c hc => (htaken.meter c).trans (hne c hc), hnotes, heq⟩
  · have hentry : State.meterEntry { s with meterHand := es } e = State.meterRestart { s with meterHand := es } e := by
      rw [State.meterEntry, show (State.meter { s with meterHand := es } e.chan).model = some m from hmodel]
      dsimp only
      rw [show (State.meter { s with meterHand := es } e.chan).base = some base from hbase]
      exact if_pos ((isRestart_iff _ _).mpr hre)
    rw [hentry] at hexec
    obtain ⟨hmeter, hne, honly, htold⟩ := State.meterRestart_spec (s := { s with meterHand := es }) (e := e)
    generalize State.meterRestart _ _ = u at hmeter hne hexec honly htold
    obtain ⟨hnotes, heq⟩ := honly.taken
    have htaken := State.taken u
    exact ⟨_, hexec, (htaken.meter _).trans hmeter, fun c hc => (htaken.meter c).trans (hne c hc),
      State.told_taken htold honly.notes.tx, hnotes, heq⟩
  · have hentry : State.meterEntry { s with meterHand := es } e = State.meterDrops { s with meterHand := es } e m base := by
      rw [State.meterEntry, show (State.meter { s with meterHand := es } e.chan).model = some m from hmodel]
      dsimp only
      rw [show (State.meter { s with meterHand := es } e.chan).base = some base from hbase]
      refine if_neg fun h => ?_
      rcases (isRestart_iff _ _).mp h with h | h | h <;> omega
    rw [hentry] at hexec
    obtain ⟨⟨rt, rv, ua, hmeter⟩, hne, hhand', hqueue'⟩ :=
      State.meterDrops_spec (s := { s with meterHand := es }) (e := e) m base
    generalize State.meterDrops _ _ _ _ = u at hmeter hne hexec hhand' hqueue'
    have htaken := State.taken u
    refine ⟨_, hexec, ?_⟩
    generalize u.refillHand.transmit = t at htaken
    have hm : t.meter e.chan = { s.meter e.chan with base := some e.totals, rt := rt, rv := rv, unattributed := ua } :=
      (htaken.meter _).trans hmeter
    refine ⟨by rw [hm], by rw [hm], by rw [hm], by rw [hm], fun c hc => (htaken.meter c).trans (hne c hc), fun hes => ?_⟩
    obtain ⟨h1, h2⟩ := htaken.hand (by rw [hhand']; exact hes)
    exact ⟨h1.trans hhand', h2.trans hqueue'⟩

/-! ## A verdict that stands in the bay's record alone (R79, R120, R128)

MeteredDropsAreConserved speaks of every state, those among them in which a bay's record and the entry it pins hold
different verdicts. Bay 0 below is REFUSED for REFILLED by its record, as its channel's policy asks, and its entry is
CLEAN. The debit scores an overdraw; the entry's verdict rises to DOUBT and is written to the record; the policy no
longer refuses the bay, the refusal is lifted, and on the bay's way to LOST the in-flight of the ADVANCE that it had
sent returns to pending. -/

/-- A channel that refuses REFILLED cartridges, of 10 pl drops, with no tolerance. -/
def verdictAheadConfig : Settings := ⟨5, 1000, 0, 0, 0, 10, 0, 5, 10, 0, .serve, .refuse, .auto, 15, 20, 20⟩

/-- The refused bay: REFILLED by its record, its link lost, 5 nl in flight. -/
def verdictAheadBay : Bay :=
  { Bay.reset with
    state := .refused, refusal := some .refilled, debounced := true, identity := some ⟨7, 5, 0, 0, 20, 7⟩
    auth := .genuine, verdict := .refilled, inFlight := 5, linkLost := true, probe := .inkPresent }

/-- The entry that the bay pins: CLEAN, with no point. -/
def verdictAheadEntry : Entry :=
  ⟨⟨7, 5, 0, 0, 0, 0, 0, 0, .clean, false, false, false, false, 0, 1⟩, 0, some 0, none, false, none, false⟩

/-- Channel 0 serves from the bay, whose ADVANCE was sent and waits for another attempt; an entry of 100 drops is in
hand. -/
def verdictAhead : State :=
  { State.reset with
    phase := .running
    doubtThreshold := 1
    refillThreshold := 200
    bays := State.reset.bays.set 0 verdictAheadBay
    chans := State.reset.chans.set 0 { Channel.reset with
      state := .serving, active := some .a, config := some verdictAheadConfig
      causes := ⟨false, false, false, false, false⟩ }
    meters := State.reset.meters.set 0 { Meter.reset with
      model := some verdictAheadConfig.model, base := some ⟨0, 0, 0⟩ }
    meterHand := [⟨0, 25, ⟨100, 0, 0⟩⟩]
    segL := { State.reset.segL with queue := [{ newBusEntry 0 .meter .advance none 0 with sent := true }] }
    hist := { State.reset.hist with table := [verdictAheadEntry] }
    link := { State.reset.link with tx := some ⟨[], true, false⟩ } }

/-- The in-flight figure of bay 0 after a command. -/
def inFlightAfter : Host.Outcome State Fault Refusal → Option Nat
  | .next t => some (t.bay 0).inFlight
  | _ => none

/-- Refutes O37: in `verdictAhead` the debit takes the in-flight of bay 0 from 5 to 0. -/
theorem not_meteredDropsAreConserved : ¬ Obligations.MeteredDropsAreConserved := by
  intro h
  obtain ⟨t, n, rt, rv, hexec, -, -, -, -, -, -, hserving, -⟩ :=
    h verdictAhead ⟨0, 25, ⟨100, 0, 0⟩⟩ [] verdictAheadConfig.model ⟨0, 0, 0⟩ rfl rfl rfl (by decide) (by decide) (by decide)
  obtain ⟨-, -, -, -, -, hkept⟩ := hserving .a rfl rfl fun _ => .inr (.inr ⟨verdictAheadConfig, rfl, by decide⟩)
  have hzero : inFlightAfter (exec .takeDropEntry verdictAhead) = some 0 := by rfl
  rw [hexec] at hzero
  have hfive : (t.bay 0).inFlight = 5 := hkept
  simp [inFlightAfter, hfive] at hzero

end Sys2Proof.Machine

/-! The start-up scan, the power-fail states and flushes (R135, R146, R169, R171 to R174). -/

namespace Sys2Proof.Machine

variable {s t u : State}

/-! ## The scan (R135, R146) -/

theorem mem_closedSlots {st : Store} {e : Entry} :
    e ∈ st.closedSlots ↔ st.slots[e.slot.val] = .closed e.data ∧ e = scannedEntry e.slot e.data := by
  simp only [Store.closedSlots, List.mem_filterMap, List.mem_finRange, true_and]
  constructor
  · rintro ⟨sl, h⟩
    split at h
    · next d hd =>
      cases h
      exact ⟨hd, rfl⟩
    · cases h
  · rintro ⟨h, he⟩
    refine ⟨e.slot, ?_⟩
    rw [h]
    exact congrArg some he.symm

/-- Each closed slot gives one entry. -/
theorem closedSlots_slots_nodup (st : Store) : (st.closedSlots.map (fun e => e.slot)).Nodup := by
  have hsub : (st.closedSlots.map (fun e => e.slot)).Sublist (List.finRange 64) := by
    unfold Store.closedSlots
    induction List.finRange 64 with
    | nil => exact .slnil
    | cons sl l ih =>
      rw [List.filterMap_cons]
      split
      · exact ih.cons sl
      · next e he =>
        have hslot : e.slot = sl := by
          split at he
          · cases he; rfl
          · cases he
        rw [List.map_cons, hslot]
        exact ih.cons_cons sl
  exact (List.nodup_finRange 64).sublist hsub

theorem insertByStamp_perm (e : Entry) (l : List Entry) : (insertByStamp e l).Perm (e :: l) := by
  induction l with
  | nil => exact .refl _
  | cons x l ih =>
    unfold insertByStamp
    split
    · exact .refl _
    · exact (ih.cons x).trans (.swap e x l)

theorem scanOrder_perm (st : Store) : st.scanOrder.Perm st.closedSlots := by
  unfold Store.scanOrder
  induction st.closedSlots with
  | nil => exact .refl _
  | cons e l ih => exact (insertByStamp_perm e _).trans (ih.cons e)

/-- The scan keeps or gives up each closed slot. -/
theorem keepFirst_dropLater_perm (l : List Entry) : ∀ seen, (keepFirst seen l ++ dropLater seen l).Perm l := by
  induction l with
  | nil => exact fun _ => .refl _
  | cons e l ih =>
    intro seen
    by_cases h : seen.contains e.data.serial = true
    · rw [keepFirst, dropLater, if_pos h, if_pos h]
      exact List.perm_middle.trans ((ih seen).cons e)
    · rw [keepFirst, dropLater, if_neg h, if_neg h]
      exact (ih _).cons e

/-- A closed slot is kept exactly when it is not given up. -/
theorem kept_iff_not_dropped {st : Store} {sl : SlotId} {d : EntryData} (h : st.slots[sl.val] = .closed d) :
    (∃ e ∈ keepFirst [] st.scanOrder, e.slot = sl) ↔ ¬ ∃ e ∈ dropLater [] st.scanOrder, e.slot = sl := by
  have hperm := (keepFirst_dropLater_perm st.scanOrder []).trans (scanOrder_perm st)
  have hnodup := (hperm.map (fun e => e.slot)).nodup_iff.mpr (closedSlots_slots_nodup st)
  rw [List.map_append, List.nodup_append] at hnodup
  obtain ⟨-, -, hdisjoint⟩ := hnodup
  constructor
  · rintro ⟨e, he, hsl⟩ ⟨x, hx, hxl⟩
    exact hdisjoint _ (List.mem_map_of_mem he) _ (List.mem_map_of_mem hx) (hsl.trans hxl.symm)
  · intro hno
    have hmem : scannedEntry sl d ∈ st.closedSlots := mem_closedSlots.mpr ⟨h, rfl⟩
    rcases List.mem_append.mp (hperm.mem_iff.mpr hmem) with hk | hd
    · exact ⟨_, hk, rfl⟩
    · exact absurd ⟨_, hd, rfl⟩ hno

/-- The greatest of stamps in descending order is the first one. -/
theorem foldl_max_stamp (l : List Entry) : ∀ n, (∀ x ∈ l, x.data.stamp ≤ n) →
    l.foldl (fun n e => max n e.data.stamp) n = n := by
  induction l with
  | nil => exact fun _ _ => rfl
  | cons x l ih =>
    intro n h
    rw [List.foldl_cons, Nat.max_eq_left (h x (by simp))]
    exact ih n fun y hy => h y (List.mem_cons_of_mem _ hy)

theorem nextStamp_cons {x : Entry} {l : List Entry} (h : (x :: l).Pairwise (fun x y => y.data.stamp ≤ x.data.stamp)) :
    nextStamp (x :: l) = x.data.stamp + 1 := by
  rw [nextStamp, List.foldl_cons, Nat.zero_max, foldl_max_stamp _ _ fun _ hy => List.rel_of_pairwise_cons h hy]

/-- The entries the scan keeps. -/
theorem mem_kept {st : Store} {e : Entry} (h : e ∈ keepFirst [] st.scanOrder) :
    st.slots[e.slot.val] = .closed e.data ∧ e = scannedEntry e.slot e.data :=
  mem_closedSlots.mp ((scanOrder_perm st).mem_iff.mp ((keepFirst_sub _ _).subset h))

theorem kept_sorted (st : Store) :
    (keepFirst [] st.scanOrder).Pairwise (fun x y => y.data.stamp ≤ x.data.stamp) :=
  (sorted_foldr st.closedSlots).sublist (keepFirst_sub _ _)

/-- With no stamp at its end the scan renumbers nothing. -/
theorem nextStamp_kept_le {st : Store}
    (h : ∀ (sl : SlotId) (d : EntryData), st.slots[sl.val] = .closed d → d.stamp < 2 ^ 32 - 1) :
    ¬ nextStamp (keepFirst [] st.scanOrder) > maxStamp := by
  have hall : ∀ e ∈ keepFirst [] st.scanOrder, e.data.stamp < 2 ^ 32 - 1 := fun e he => h e.slot e.data (mem_kept he).1
  have hsorted := kept_sorted st
  cases hk : keepFirst [] st.scanOrder with
  | nil => decide
  | cons x l =>
    rw [hk] at hall hsorted
    have hx := hall x (by simp)
    rw [nextStamp_cons hsorted]
    simp only [maxStamp]
    omega

/-- What the end of the scan leaves of the scan's work: entry into SAVING finds no entry pinned or dirty. -/
structure ScanEnds (s t : State) : Prop where
  table : t.hist.table = s.hist.table
  removals : t.hist.removals = s.hist.removals
  linkSeq : t.hist.linkSeq = s.hist.linkSeq
  torn : t.hist.torn = s.hist.torn
  keySaves : t.hist.keySaves = s.hist.keySaves
  store : t.store = s.store
  challenge : t.challenge = s.challenge
  bays : t.bays = s.bays
  chans : t.chans = s.chans

theorem ScanEnds.endStartup (h : ∀ e ∈ s.hist.table, e.pin = none ∧ e.dirty = none) :
    ScanEnds s s.endStartup ∧ s.endStartup.phase = .running := by
  have htable : s.hist.table.map (fun e => if e.pin.isSome then { e with pfSave := true } else e.resave s.hist.writeOrder) =
      s.hist.table := by
    refine (List.map_congr_left fun e he => ?_).trans (List.map_id _)
    obtain ⟨hpin, hdirty⟩ := h e he
    simp [hpin, hdirty, Entry.resave]
  unfold State.endStartup State.enterSaving State.raisePower
  dsimp only
  split
  · exact ⟨⟨by simpa using htable, by simp, by simp, by simp, by simp, by simp, by simp, by simp, by simp⟩, by simp⟩
  · exact ⟨⟨by simp, by simp, by simp, by simp, by simp, by simp, by simp, by simp, by simp⟩, by simp⟩

/-- The scan's work: the end of start-up, if it comes, leaves it. -/
theorem State.scanComplete_spec (hno : ¬ nextStamp (keepFirst [] s.store.scanOrder) > maxStamp) :
    (let t := s.scanComplete
     t.hist.table = keepFirst [] s.store.scanOrder ∧
      t.hist.removals = (dropLater [] s.store.scanOrder).map (fun e => ⟨e.slot, s.hist.writeOrder⟩) ∧
      t.hist.linkSeq = nextStamp (keepFirst [] s.store.scanOrder) ∧ t.hist.torn = s.store.tornCount ∧
      t.store = { s.store with slots := s.store.slots.map StoredSlot.freeTorn } ∧ t.bays = s.bays ∧ t.chans = s.chans ∧
      (s.store.limit < 2 ^ 48 → t.phase = .reserving ∧ t.challenge = s.challenge ∧
        t.hist.keySaves = s.hist.keySaves ++ [.reserve (s.store.limit + 4096)]) ∧
      (¬ s.store.limit < 2 ^ 48 →
        t.phase = .running ∧ t.challenge.block = .exhausted ∧ t.hist.keySaves = s.hist.keySaves)) := by
  have hscan : s.scanSlots.hist.table = keepFirst [] s.store.scanOrder := if_neg hno
  have hseq : s.scanSlots.hist.linkSeq = nextStamp (keepFirst [] s.store.scanOrder) := if_neg hno
  dsimp only
  unfold State.scanComplete
  extract_lets s1
  by_cases h : s.store.limit < 2 ^ 48
  · rw [if_pos (show s1.store.limit < Config.challengeEnd from h)]
    exact ⟨hscan, rfl, hseq, rfl, rfl, rfl, rfl, fun _ => ⟨rfl, rfl, rfl⟩, fun k => absurd h k⟩
  · rw [if_neg (show ¬ s1.store.limit < Config.challengeEnd from h)]
    obtain ⟨hend, hphase⟩ := ScanEnds.endStartup (s := { s1 with challenge := { s1.challenge with block := .exhausted } })
      (fun e he => by
        have he : e ∈ keepFirst [] s.store.scanOrder := hscan ▸ he
        rw [(mem_kept he).2]
        exact ⟨rfl, rfl⟩)
    exact ⟨hend.table.trans hscan, hend.removals, hend.linkSeq.trans hseq, hend.torn, hend.store, hend.bays,
      hend.chans, fun k => absurd k h, fun _ => ⟨hphase, congrArg ChallengeCounter.block hend.challenge, hend.keySaves⟩⟩

/-- Settles O5. -/
theorem scanBuildsTheWorkingTable : Obligations.ScanBuildsTheWorkingTable := by
  intro s hphase hstamps
  have hexec : exec .storeScanComplete s = .next s.scanComplete.conclude := by
    simp [exec, execStoreScanComplete, hphase]
  obtain ⟨htable, hremovals, hseq, htorn, hstore, hbays, hchans, hlow, hhigh⟩ :=
    State.scanComplete_spec (nextStamp_kept_le hstamps)
  have hsorted := kept_sorted s.store
  refine ⟨_, hexec, ?_⟩
  simp only [State.conclude_hist_table, State.conclude_hist_removals, State.conclude_hist_linkSeq,
    State.conclude_hist_torn, State.conclude_store, State.conclude_bays, State.conclude_chans, State.conclude_phase,
    State.conclude_challenge, State.conclude_hist_keySaves, HistoryUnit.serials, htable, hremovals, hseq, htorn, hstore,
    hbays, hchans]
  refine ⟨fun e he => ?_, fun sl d hd => ⟨?_, ?_⟩, keepFirst_nodup _ _, hsorted, fun h => ?_, fun x xs h => ?_, rfl,
    fun sl => ?_, trivial, trivial, trivial, hlow, hhigh⟩
  · obtain ⟨hslot, heq⟩ := mem_kept he
    have hlt : e.data.stamp < nextStamp (keepFirst [] s.store.scanOrder) := by
      cases hk : keepFirst [] s.store.scanOrder with
      | nil =>
        rw [hk] at he
        cases he
      | cons x l =>
        rw [hk] at he hsorted
        rw [nextStamp_cons hsorted]
        rcases List.mem_cons.mp he with rfl | hl
        · omega
        · have := List.rel_of_pairwise_cons hsorted hl
          omega
    refine ⟨?_, ?_, ?_, hlt, hslot⟩ <;> rw [heq] <;> rfl
  · have hmem : scannedEntry sl d ∈ s.store.scanOrder :=
      (scanOrder_perm s.store).mem_iff.mpr (mem_closedSlots.mpr ⟨hd, rfl⟩)
    exact keepFirst_rep _ [] (sorted_foldr s.store.closedSlots) _ hmem (by simp)
  · rw [kept_iff_not_dropped hd]
    simp
  · rw [h]
    rfl
  · rw [h] at hsorted ⊢
    exact nextStamp_cons hsorted
  · rw [Vector.getElem_map]
    cases s.store.slots[sl.val] <;> rfl

/-! ## The power-fail states (R173, R174) -/

theorem State.pfCheck_of_saving (h : s.hist.pf = .saving) :
    s.pfCheck.hist.pf = if s.hist.pfSet.all (fun m => m.done) = true then .saved else .saving := by
  unfold State.pfCheck State.raisePower
  split <;> simp [h, State.setPf]

theorem State.pfCheck_of_resuming (h : s.hist.pf = .resuming) :
    s.pfCheck.hist.pf = if s.hist.pfSet.all (fun m => m.done) = true then .normal else .resuming := by
  unfold State.pfCheck State.raisePower
  split <;> simp [h, State.setPf]

/-- No member of a set formed now is done. -/
theorem State.formSet_all_done : s.formSet.all (fun m => m.done) = true ↔ s.formSet = [] := by
  simp [State.formSet, List.filter_eq_nil_iff]

/-- A debounced change of the warning, before it is acted on (R173). -/
def State.warned (s : State) (due : Nat) (x : Bool) : State :=
  (s.advanceTo due).modHist (fun h => { h with pfAt := none, pfLevel := x })

theorem exec_pfwarnDebounceExpiry {due : Nat} {x : Bool} (hdue : s.hist.pfAt = some due) (hrun : s.phase = .running)
    (hx : s.pins.pfwarn = x) (hne : s.hist.pfLevel ≠ x) :
    exec .pfwarnDebounceExpiry s = .next (s.warned due x).pfChanged.conclude := by
  have hne' : ¬ s.pins.pfwarn = s.hist.pfLevel := by rw [hx]; exact hne.symm
  simp [exec, execPfwarnDebounceExpiry, hdue, State.advanceTo, State.modHist, hrun, State.warned, hx, hx ▸ hne']

/-- An entry that joins a set while its save is in progress is saved again (log 49). -/
theorem Entry.rewrite_of_resave {e : Entry} {n : Nat} (hpin : (e.resave n).pin = none)
    (hdirty : (e.resave n).dirty.isSome = true) (hsaving : (e.resave n).saving = true) :
    (e.resave n).rewrite.isSome = true := by
  unfold Entry.resave at *
  split at hpin
  · next h => simp [h]
  · next h =>
    rw [if_neg h] at hdirty hsaving
    exact absurd (by simp [hpin, hdirty, hsaving]) h

/-- Settles O10: the bays, channels and store are out of reach of `pfChanged` and `conclude`; the power-fail state at
the end is what `pfCheck` makes of the state the change led to. -/
theorem powerFailStatesMove : Obligations.PowerFailStatesMove := by
  intro s due hdue hrun
  refine ⟨fun hwarn hlevel hpf => ?_, fun hwarn hlevel hpf => ?_⟩
  · have hchanged : (s.warned due true).pfChanged = (s.warned due true).enterSaving := by
      have hpf' : (s.warned due true).hist.pf = .normal ∨ (s.warned due true).hist.pf = .resuming := hpf
      have hlevel' : (s.warned due true).hist.pfLevel = true := rfl
      rcases hpf' with h | h <;> simp [State.pfChanged, hlevel', h]
    have hsaving : (s.warned due true).enterSaving.hist.pf = .saving := by
      simp [State.enterSaving, State.raisePower]
    have hset : (s.warned due true).enterSaving.hist.pfSet = s.formSet := by
      simp [State.enterSaving, State.raisePower]
      rfl
    refine ⟨_, exec_pfwarnDebounceExpiry hdue hrun hwarn (by simp [hlevel]), ?_⟩
    rw [hchanged]
    have hpf' : (s.warned due true).enterSaving.conclude.hist.pf = if s.formSet = [] then .saved else .saving := by
      rw [State.conclude_hist_pf, State.pfCheck_of_saving hsaving, hset]
      simp only [State.formSet_all_done]
    have htable : (s.warned due true).enterSaving.conclude.hist.table = s.hist.table.map (fun e =>
        if e.pin.isSome then { e with pfSave := true } else e.resave s.hist.writeOrder) := by
      simp [State.enterSaving, State.raisePower]
      rfl
    refine ⟨?_, ?_, ?_, ?_, ?_, fun e he hpin => ?_, fun e he hpin hdirty hsave => ?_, ?_, ?_, ?_, ?_, ?_, ?_⟩
    · simp [State.enterSaving, State.raisePower]
      rfl
    · simp [State.enterSaving, State.raisePower]
      rfl
    · rw [State.conclude_hist_pfSet, hset]
      rfl
    · rw [hpf', State.conclude_hist_pfSet, hset]
    · unfold State.powerFail
      rw [hpf']
      split <;> rfl
    · rw [htable] at he
      obtain ⟨y, hy, rfl⟩ := List.mem_map.mp he
      split at hpin
      · next h => rw [if_pos h]
      · next h =>
        have hpiny : (y.resave s.hist.writeOrder).pin = y.pin := by unfold Entry.resave; split <;> rfl
        rw [hpiny] at hpin
        exact absurd hpin h
    · rw [htable] at he
      obtain ⟨y, hy, rfl⟩ := List.mem_map.mp he
      by_cases h : y.pin.isSome = true
      · rw [if_pos h] at hpin
        simp [show y.pin = none from hpin] at h
      · rw [if_neg h] at hpin hdirty hsave ⊢
        exact Entry.rewrite_of_resave hpin hdirty hsave
    all_goals simp [State.enterSaving, State.raisePower] <;> rfl
  · have hlevel' : (s.warned due false).hist.pfLevel = false := rfl
    have hall : (s.hist.pfSet.all (fun m => m.done) = true) ↔ ∀ m ∈ s.hist.pfSet, m.done = true := by simp
    refine ⟨_, exec_pfwarnDebounceExpiry hdue hrun hwarn (by simp [hlevel]), ?_⟩
    rcases hpf with h | h
    · have hchanged : (s.warned due false).pfChanged = (s.warned due false).setPf .resuming := by
        simp [State.pfChanged, hlevel', show (s.warned due false).hist.pf = .saving from h]
      have hpf' : ((s.warned due false).setPf .resuming).conclude.hist.pf =
          if ∀ m ∈ s.hist.pfSet, m.done = true then .normal else .resuming := by
        rw [State.conclude_hist_pf, State.pfCheck_of_resuming rfl]
        exact if_congr hall rfl rfl
      rw [hchanged, hpf', h]
      refine ⟨by simp; rfl, by simp; rfl, ?_, ?_⟩
      · by_cases hd : ∀ m ∈ s.hist.pfSet, m.done = true
        · rw [if_pos hd, if_neg (fun hn => hn.2 hd)]
        · rw [if_neg hd, if_pos ⟨rfl, hd⟩]
      · simp
        exact ⟨rfl, rfl, rfl, rfl, rfl, rfl, rfl, rfl⟩
    · have hchanged : (s.warned due false).pfChanged = ((s.warned due false).setPf .normal).raisePower .resumed := by
        simp [State.pfChanged, hlevel', show (s.warned due false).hist.pf = .saved from h]
      have hnormal : (((s.warned due false).setPf .normal).raisePower .resumed).hist.pf = .normal := by
        simp [State.raisePower, State.setPf]
      rw [hchanged, State.conclude_hist_pf, State.pfCheck_of_settled (.inl hnormal), hnormal, h]
      simp [State.raisePower]
      exact ⟨rfl, rfl, rfl, rfl, rfl, rfl, rfl, rfl, rfl, rfl⟩

end Sys2Proof.Machine

/-! Refreshes of pinned entries, one after another, and the flush they begin (R138, R171, R172). -/

namespace Sys2Proof.Machine

variable {s t u : State}

/-! ## One refresh -/

theorem State.pinnedBy_mem {b : BayId} {e : Entry} (h : s.pinnedBy b = some e) : e ∈ s.hist.table ∧ e.pin = some b := by
  unfold State.pinnedBy at h
  exact ⟨List.mem_of_find?_eq_some h, by simpa using List.find?_some h⟩

/-- With distinct serials, a serial names one entry. -/
theorem State.serialsDistinct.eq (h : s.serialsDistinct) {e x : Entry} (he : e ∈ s.hist.table) (hx : x ∈ s.hist.table)
    (k : e.data.serial = x.data.serial) : e = x := by
  unfold State.serialsDistinct HistoryUnit.serials at h
  exact List.inj_on_of_nodup_map h he hx k

/-- What a refresh of `b` makes of an entry. -/
def State.refreshed (s : State) (b : BayId) (x : Entry) : Entry :=
  match s.pinnedBy b, (s.bay b).identity with
  | some e, some i =>
    if x.data.serial = e.data.serial then
      (Entry.withData (refreshData (s.bay b) i b (s.meterAccepted b)) x).touch s.hist.writeOrder
    else x
  | _, _ => x

theorem State.refresh_table (b : BayId) : (s.refresh b).hist.table = s.hist.table.map (s.refreshed b) := by
  unfold State.refresh
  split
  · next e i he hi =>
    refine List.map_congr_left fun x _ => ?_
    simp [State.refreshed, he, hi]
  · next h =>
    refine (List.map_id'' (fun x => ?_) _).symm
    unfold State.refreshed
    split
    · next e i he hi => exact absurd hi (h e i he)
    · rfl

/-- A refresh leaves an entry's key, its pin, its slot and its save alone. -/
theorem State.refreshed_key (b : BayId) (x : Entry) :
    (s.refreshed b x).data.serial = x.data.serial ∧ (s.refreshed b x).pin = x.pin ∧
      (s.refreshed b x).slot = x.slot ∧ (s.refreshed b x).saving = x.saving := by
  unfold State.refreshed
  split
  · split <;> exact ⟨rfl, rfl, rfl, rfl⟩
  · exact ⟨rfl, rfl, rfl, rfl⟩

/-- A refresh writes the entry the bay pins, and no other one. -/
theorem State.refreshed_of_ne (hd : s.serialsDistinct) {b : BayId} {x : Entry} (hx : x ∈ s.hist.table)
    (h : s.pinnedBy b ≠ some x) : s.refreshed b x = x := by
  unfold State.refreshed
  split
  · next e i he hi =>
    rw [if_neg]
    intro k
    exact h (hd.eq hx (State.pinnedBy_mem he).1 k ▸ he)
  · rfl

theorem State.refreshed_of_pinned {b : BayId} {x : Entry} {i : Identity} (h : s.pinnedBy b = some x)
    (hi : (s.bay b).identity = some i) :
    s.refreshed b x = (Entry.withData (refreshData (s.bay b) i b (s.meterAccepted b)) x).touch s.hist.writeOrder := by
  simp [State.refreshed, h, hi]

theorem State.refresh_pinnedBy (b c : BayId) : (s.refresh b).pinnedBy c = (s.pinnedBy c).map (s.refreshed b) := by
  unfold State.pinnedBy
  rw [State.refresh_table]
  exact find_map _ _ (fun x => by rw [(s.refreshed_key b x).2.1]) _

theorem State.serialsDistinct.refresh (h : s.serialsDistinct) (b : BayId) : (s.refresh b).serialsDistinct :=
  ((Within.refl s).refresh b).serials h

theorem State.refresh_parts (b : BayId) :
    s.refresh b = { s with hist := { s.hist with
      table := (s.refresh b).hist.table, writeOrder := (s.refresh b).hist.writeOrder } } := by
  unfold State.refresh
  split <;> rfl

/-! ## Refreshes of a list of bays -/

/-- A list of refreshes rewrites the table entry by entry: `f` says what each becomes. -/
structure Refreshed (s t : State) (l : List BayId) (f : Entry → Entry) : Prop where
  parts : t = { s with hist := { s.hist with table := t.hist.table, writeOrder := t.hist.writeOrder } }
  table : t.hist.table = s.hist.table.map f
  key : ∀ e, (f e).data.serial = e.data.serial ∧ (f e).pin = e.pin ∧ (f e).slot = e.slot ∧ (f e).saving = e.saving
  others : ∀ e ∈ s.hist.table, (∀ b ∈ l, s.pinnedBy b ≠ some e) → f e = e
  pinned : ∀ b ∈ l, ∀ e i, s.pinnedBy b = some e → (s.bay b).identity = some i →
    (f e).data = refreshData (s.bay b) i b (s.meterAccepted b) e.data ∧ (f e).dirty.isSome = true

theorem Refreshed.foldl (l : List BayId) (hl : l.Nodup) (hd : s.serialsDistinct) :
    ∃ f, Refreshed s (l.foldl State.refresh s) l f := by
  induction l generalizing s with
  | nil => exact ⟨id, rfl, (List.map_id _).symm, fun _ => ⟨rfl, rfl, rfl, rfl⟩, fun _ _ _ => rfl, fun b hb => by cases hb⟩
  | cons b l ih =>
    obtain ⟨hb, hl⟩ := List.nodup_cons.mp hl
    obtain ⟨f, hparts, htable, hkey, hothers, hpinned⟩ := ih hl (hd.refresh b)
    have hbay : ∀ c, (s.refresh b).bay c = s.bay c := fun c => by rw [State.refresh_parts]; rfl
    have hmeter : ∀ c, (s.refresh b).meterAccepted c = s.meterAccepted c := fun c => by rw [State.refresh_parts]; rfl
    -- an entry that another bay of the list pins is not touched by the refresh of `b`
    have hapart : ∀ {c e}, s.pinnedBy c = some e → c ≠ b → s.refreshed b e = e := fun {c e} he hc => by
      refine State.refreshed_of_ne hd (State.pinnedBy_mem he).1 fun k => hc ?_
      have := (State.pinnedBy_mem he).2.symm.trans (State.pinnedBy_mem k).2
      exact Option.some.inj this
    refine ⟨f ∘ s.refreshed b, ?_, ?_, fun e => ?_, fun e he hn => ?_, fun c hc e i he hi => ?_⟩
    · rw [List.foldl_cons, hparts, State.refresh_parts]
    · rw [List.foldl_cons, htable, State.refresh_table, List.map_map]
    · obtain ⟨h1, h2, h3, h4⟩ := hkey (s.refreshed b e)
      obtain ⟨k1, k2, k3, k4⟩ := s.refreshed_key b e
      exact ⟨h1.trans k1, h2.trans k2, h3.trans k3, h4.trans k4⟩
    · have hself : s.refreshed b e = e := State.refreshed_of_ne hd he (hn b (by simp))
      rw [Function.comp_apply, hself]
      refine hothers e ?_ fun c hc => ?_
      · rw [State.refresh_table]
        exact List.mem_map.mpr ⟨e, he, hself⟩
      · rw [State.refresh_pinnedBy]
        intro k
        obtain ⟨y, hy, hye⟩ := Option.map_eq_some_iff.mp k
        refine hn c (by simp [hc]) ?_
        rw [hapart hy (fun e' => hb (e' ▸ hc))] at hye
        rw [hy, hye]
    · rw [Function.comp_apply]
      rcases List.mem_cons.mp hc with rfl | hc
      · have hkeep : f (s.refreshed c e) = s.refreshed c e := by
          refine hothers _ ?_ fun x hx k => ?_
          · rw [State.refresh_table]
            exact List.mem_map.mpr ⟨e, (State.pinnedBy_mem he).1, rfl⟩
          · have hpin := (State.pinnedBy_mem k).2
            rw [(s.refreshed_key c e).2.1, (State.pinnedBy_mem he).2] at hpin
            exact hb (Option.some.inj hpin ▸ hx)
        rw [hkeep, State.refreshed_of_pinned he hi]
        exact ⟨rfl, rfl⟩
      · have hcb : c ≠ b := fun k => hb (k ▸ hc)
        have hself := hapart he hcb
        rw [hself]
        have := hpinned c hc e i (by rw [State.refresh_pinnedBy, he, Option.map_some, hself]) (by rw [hbay, hi])
        rwa [hbay, hmeter] at this

namespace Refreshed

variable {l : List BayId} {f : Entry → Entry}

/-- Every entry that a bay pins joins a set, refreshed or not. -/
theorem joins (h : Refreshed s t l f) {e : Entry} (he : e ∈ s.hist.table) : (f e).joins = e.joins := by
  obtain ⟨-, hpin, -⟩ := h.key e
  cases hp : e.pin with
  | none =>
    rw [h.others e he fun b _ k => by simp [(State.pinnedBy_mem k).2] at hp]
  | some b => simp [Entry.joins, hpin, hp]

theorem formSet (h : Refreshed s t l f) : t.formSet = s.formSet := by
  unfold State.formSet
  rw [h.table, List.filter_map, List.map_map]
  have hfilter : s.hist.table.filter (Entry.joins ∘ f) = s.hist.table.filter Entry.joins :=
    List.filter_congr fun e he => h.joins he
  rw [hfilter]
  exact List.map_congr_left fun e _ => by simp [(h.key e).1]

end Refreshed

/-! ## The flush -/

@[simp] theorem Entry.resave_slot (n : Nat) (e : Entry) : (e.resave n).slot = e.slot := by
  unfold Entry.resave; split <;> rfl

@[simp] theorem Entry.resave_dirty (n : Nat) (e : Entry) : (e.resave n).dirty = e.dirty := by
  unfold Entry.resave; split <;> rfl

/-- What forming a flush set does outside the entries: the link waits for the set. -/
theorem State.formFlush_spec (hd : s.serialsDistinct) :
    ∃ f n, Refreshed s (allBays.foldl State.refresh s) allBays f ∧
      s.formFlush.hist.table = s.hist.table.map (fun e => (f e).resave n) ∧
      s.formFlush.link = { s.link with waiting := some (.flush s.formSet), reserved := true } ∧
      s.formFlush = { s with hist := s.formFlush.hist, link := s.formFlush.link } := by
  obtain ⟨f, hf⟩ := Refreshed.foldl allBays (List.nodup_finRange _) hd
  refine ⟨f, (allBays.foldl State.refresh s).hist.writeOrder, hf, ?_, ?_, ?_⟩
  · rw [State.formFlush, State.waitFor]
    simp only [hf.table, List.map_map]
    rfl
  · rw [State.formFlush, State.waitFor]
    simp only [hf.formSet]
    rw [hf.parts]
  · conv_lhs => rw [State.formFlush, State.waitFor]
    conv_rhs => rw [State.formFlush, State.waitFor]
    dsimp only
    generalize allBays.foldl State.refresh s = v at hf ⊢
    obtain ⟨hparts, -⟩ := hf
    rw [hparts]

/-- A command whose flush set is empty answers the request that waits for it. -/
theorem State.answered_of_empty_flush {q : Request} {rest : List Request} (hi : s.link.intake = q :: rest)
    (hw : s.link.waiting = some (.flush [])) : s.answered s.conclude q rest .ok [0] := by
  have hpf := s.noteOnly_pfCheck
  have hintake : s.pfCheck.link.intake = q :: rest := hpf.intake.trans hi
  have hwait : s.pfCheck.link.waiting = some (.flush []) := (congrArg LinkUnit.waiting hpf.eq).trans hw
  have hflush : s.pfCheck.flushCheck = s.pfCheck.finishRequest .ok [0] s.pfCheck.restarting := by
    unfold State.flushCheck
    rw [hwait]
    simp
    rfl
  have h : s.pfCheck.answered s.conclude q rest .ok [0] := by
    refine State.finishRequest_answered hintake .ok [0] s.pfCheck.restarting ?_
    rw [State.conclude, hflush]
    exact State.noteOnly_transmit (NoteOnly.refl _)
  exact h.of_link hpf.replyFrames

/-- A command whose flush set is not empty leaves the request waiting. -/
theorem State.waits_of_flush {ms : List SetMember} (hw : s.link.waiting = some (.flush ms))
    (hms : ¬ ms.all (fun m => m.done) = true) :
    s.conclude.link.waiting = s.link.waiting ∧ s.conclude.link.reserved = s.link.reserved ∧
      s.conclude.link.intake = s.link.intake := by
  have hpf := s.noteOnly_pfCheck
  have hflush : s.pfCheck.flushCheck = s.pfCheck := by
    unfold State.flushCheck
    rw [congrArg LinkUnit.waiting hpf.eq, hw]
    exact if_neg hms
  have hnotes : s.link.onlyNotices s.conclude.link := by
    rw [State.conclude, hflush]
    exact State.noteOnly_transmit hpf
  exact ⟨hnotes.waiting, hnotes.reserved, hnotes.intake⟩

/-- Settles O11: the refreshes write the entry of each bay and no other, so the set is formed as though before them; what
`conclude` then does turns on whether the set is empty. -/
theorem flushFormsItsSet : Obligations.FlushFormsItsSet := by
  intro s c r q rest hc hexec hd
  obtain ⟨-, -, hintake, -, -⟩ := id hexec
  have hstep : exec c s = .next s.reserve.formFlush.conclude := by
    rcases hc with ⟨rfl, rfl⟩ | ⟨rfl, rfl⟩ <;> exact exec_request hexec
  obtain ⟨f, n, hf, htable, hlink, hparts⟩ := State.formFlush_spec (s := s.reserve) hd
  have hwait : s.reserve.formFlush.link.waiting = some (.flush s.formSet) := by rw [hlink]; rfl
  have hsaves : s.reserve.formFlush.conclude.hist.table = s.hist.table.map (fun e => (f e).resave n) := by
    rw [State.conclude_hist_table, htable]
    rfl
  refine ⟨_, hstep, ?_, ?_, ?_, ?_, ?_, fun b e i he hi => ?_, fun e he hpin hdirty hsaving => ?_, fun hset => ?_,
    fun hset => ?_⟩
  · rw [State.conclude_bays, hparts]; rfl
  · rw [State.conclude_chans, hparts]; rfl
  · rw [State.conclude_store, hparts]; rfl
  · rw [State.conclude_challenge, hparts]; rfl
  · rw [hsaves, List.map_map]
    refine List.map_congr_left fun e _ => ?_
    obtain ⟨hserial, hpin, hslot, -⟩ := hf.key e
    simp [hserial, hpin, hslot]
  · obtain ⟨hdata, hdirty⟩ := hf.pinned b (List.mem_finRange b) e i he hi
    refine ⟨(f e).resave n, ?_, ?_, ?_, ?_⟩
    · rw [hsaves]
      exact List.mem_map.mpr ⟨e, (State.pinnedBy_mem he).1, rfl⟩
    · rw [Entry.resave_data]
      exact (hf.key e).1
    · rw [Entry.resave_dirty]
      exact hdirty
    · rw [Entry.resave_data]
      exact hdata
  · rw [hsaves] at he
    obtain ⟨y, -, rfl⟩ := List.mem_map.mp he
    exact Entry.rewrite_of_resave hpin hdirty hsaving
  · obtain ⟨h1, h2, h3⟩ := State.waits_of_flush hwait (fun h => hset (State.formSet_all_done.mp h))
    refine ⟨h1.trans hwait, h2.trans ?_, h3.trans ?_⟩
    · rw [hlink]
    · rw [hlink]
      exact hintake
  · have hempty : s.formSet = [] := hset
    rw [hempty] at hwait
    have h : s.reserve.formFlush.answered s.reserve.formFlush.conclude q rest .ok [0] :=
      State.answered_of_empty_flush (by rw [hlink]; exact hintake) hwait
    exact h.of_link (by rw [hlink]; rfl)

end Sys2Proof.Machine

/-! The removal of a cartridge (R2, R18, R42, R44, R140). -/

namespace Sys2Proof.Machine

variable {s t u : State} {b : BayId}

/-- The parts that the operations inside a command can change. -/
theorem Within.parts (h : Within s t) : t = { s with
    bays := t.bays, chans := t.chans, segL := t.segL, segR := t.segR, hist := t.hist, link := t.link } :=
  State.eq_of_fields h.now h.pending h.freeCount h.pins h.phase h.cause h.ageLimit h.doubtThreshold h.refillThreshold rfl
    rfl h.meters h.meterQueue h.meterHand rfl rfl h.challenge h.store rfl rfl

/-! ## The bay's work on the bus -/

/-- The entry of one class is taken from the bay `b`: its transaction is REMOVED when it had sent a frame, and `f` is
what happens to the figures. -/
structure Emptied (b : BayId) (k : EntryClass) (f : Bay → Bay) (s t : State) : Prop where
  bay : t.bay b = { f (s.bay b) with
    lastOutcome := if (s.busEntry b k).any (fun e => e.sent) then some .removed else (s.bay b).lastOutcome }
  gone : t.busEntry b k = none
  others : ∀ l, l ≠ k → t.busEntry b l = s.busEntry b l
  hist : t.hist = s.hist
  acts : Acts b s t

theorem Emptied.of_none {k : EntryClass} (h : s.busEntry b k = none) : Emptied b k id s s :=
  ⟨by simp [h], h, fun _ _ => rfl, rfl, .refl⟩

theorem Emptied.dequeue {k : EntryClass} {e : BusEntry} (h : s.busEntry b k = some e) :
    Emptied b k id s ((s.dequeue b k).noteRemoved b e.sent) := by
  unfold State.noteRemoved
  split
  · next hsent =>
    refine ⟨by simp [State.noteOutcome, h, hsent], ?_, fun l hl => ?_, by simp [State.noteOutcome, State.dequeue], (Acts.refl.dequeue _).noteOutcome _⟩
    · rw [State.noteOutcome, State.busEntry_modBay, State.busEntry_dequeue]
    · rw [State.noteOutcome, State.busEntry_modBay, State.busEntry_dequeue_ne hl]
  · next hsent =>
    exact ⟨by simp [h, hsent], State.busEntry_dequeue _ _, fun l hl => State.busEntry_dequeue_ne hl,
      by simp [State.dequeue], Acts.refl.dequeue _⟩

/-- The figures of a removed bay whose METER entry is `m`: what a cut ADVANCE carried moves (R85). -/
def Bay.cutAdvance (v : Bay) (m : Option BusEntry) : Bay :=
  match m with
  | some m =>
    if m.sent = true ∧ m.released = false then (if m.split.isSome = true then v.doubtInFlight else v.returnInFlight)
    else v
  | none => v

theorem Emptied.removeMeter : Emptied b .meter (fun v => v.cutAdvance (s.busEntry b .meter)) s (s.removeMeter b) := by
  unfold State.removeMeter
  split
  · next h =>
    have w := Emptied.of_none h
    exact { w with bay := by simp [h, Bay.cutAdvance] }
  · next e h =>
    obtain ⟨hbay, hgone, hothers, hhist, hacts⟩ := Emptied.dequeue h
    unfold State.advanceUndone
    dsimp only
    simp only [h, id] at hbay ⊢
    by_cases hsent : e.sent = true
    · by_cases hrel : e.released = true
      · rw [if_pos hsent, if_pos hrel]
        exact ⟨by rw [hbay]; simp [Bay.cutAdvance, h, hrel], hgone, hothers, hhist, hacts⟩
      · rw [if_pos hsent, if_neg hrel]
        refine ⟨?_, by simpa using hgone, fun l hl => by simpa using hothers l hl, hhist, hacts.modBay _⟩
        rw [State.bay_modBay, hbay]
        simp only [Bay.cutAdvance, h, hsent, hrel]
        split <;> simp [Bay.doubtInFlight, Bay.returnInFlight]
    · rw [if_neg hsent]
      exact ⟨by rw [hbay]; simp [Bay.cutAdvance, h, hsent], hgone, hothers, hhist, hacts⟩

/-- A SERVICE block that is REMOVED ends its request, if one waits for it. -/
theorem State.serviceEnd_removed (b : BayId) :
    s.serviceEnd b .removed [] = s ∨ ∃ r fs, s.serviceEnd b .removed [] = s.finishRequest r fs false := by
  unfold State.serviceEnd
  repeat' split
  all_goals first | exact .inl rfl | exact .inr ⟨_, _, rfl⟩ | contradiction

theorem Emptied.removeService : Emptied b .service id s (s.removeService b) := by
  unfold State.removeService
  split
  · next h => exact .of_none h
  · next e h =>
    obtain ⟨hbay, hgone, hothers, hhist, hacts⟩ := Emptied.dequeue h
    rcases State.serviceEnd_removed (s := (s.dequeue b .service).noteRemoved b e.sent) b with hs | ⟨r, fs, hs⟩
    · rw [hs]
      exact ⟨hbay, hgone, hothers, hhist, hacts⟩
    · rw [hs]
      exact ⟨by simpa using hbay, by simpa using hgone, fun l hl => by simpa using hothers l hl, by simpa using hhist,
        hacts.finishRequest _ _ _⟩

theorem Emptied.removeSetup : Emptied b .setup id s (s.removeSetup b) := by
  unfold State.removeSetup
  split
  · next h => exact .of_none h
  · next e h => exact .dequeue h

/-- The segment controller's own part: the exchange in flight ends for its owner (R44). -/
def State.forgetBay (s : State) (b : BayId) : State :=
  s.modSeg (baySeg b) (fun c =>
    { c with exchange := c.exchange.map (Exchange.forget b), stepOne := c.stepOne.filter (fun y => y != b) })

theorem State.removalCleanup_eq (b : BayId) :
    s.removalCleanup b = (((s.forgetBay b).removeMeter b).removeService b).removeSetup b := rfl

theorem State.busEntry_forgetBay (k : EntryClass) : (s.forgetBay b).busEntry b k = s.busEntry b k := by
  simp [State.busEntry_eq_find, State.forgetBay]

/-- The bay is left with no entry, and its record with the figures of a cut ADVANCE. -/
theorem State.removalCleanup_spec (b : BayId) :
    (s.removalCleanup b).bay b = { (s.bay b).cutAdvance (s.busEntry b .meter) with
      lastOutcome :=
        if [EntryClass.setup, .meter, .service].any (fun k => (s.busEntry b k).any (fun e => e.sent)) then some .removed
        else (s.bay b).lastOutcome } ∧
      (∀ k, (s.removalCleanup b).busEntry b k = none) ∧ (s.removalCleanup b).hist = s.hist ∧
      Acts b (s.forgetBay b) (s.removalCleanup b) := by
  rw [State.removalCleanup_eq]
  have m := Emptied.removeMeter (s := s.forgetBay b) (b := b)
  generalize (s.forgetBay b).removeMeter b = s1 at m ⊢
  have v := Emptied.removeService (s := s1) (b := b)
  generalize s1.removeService b = s2 at v ⊢
  have p := Emptied.removeSetup (s := s2) (b := b)
  generalize s2.removeSetup b = s3 at p ⊢
  have hv : s1.busEntry b .service = s.busEntry b .service :=
    (m.others _ (by decide)).trans (State.busEntry_forgetBay _)
  have hp : s2.busEntry b .setup = s.busEntry b .setup :=
    (v.others _ (by decide)).trans ((m.others _ (by decide)).trans (State.busEntry_forgetBay _))
  refine ⟨?_, fun k => ?_, p.hist.trans (v.hist.trans (m.hist.trans (by simp [State.forgetBay]))), (m.acts.trans v.acts).trans p.acts⟩
  · have hb : (s.forgetBay b).bay b = s.bay b := by simp [State.forgetBay]
    have hlast : ((s.bay b).cutAdvance (s.busEntry b .meter)).lastOutcome = (s.bay b).lastOutcome := by
      unfold Bay.cutAdvance
      repeat' split
      all_goals rfl
    rw [p.bay, v.bay, m.bay, hv, hp, State.busEntry_forgetBay, hb]
    simp only [id, List.any_cons, List.any_nil, Bool.or_false]
    cases (s.busEntry b .setup).any (fun e => e.sent) <;> cases (s.busEntry b .meter).any (fun e => e.sent) <;>
      cases (s.busEntry b .service).any (fun e => e.sent) <;> simp
  · cases k with
    | setup => exact p.gone
    | meter => exact (p.others _ (by decide)).trans ((v.others _ (by decide)).trans m.gone)
    | service => exact (p.others _ (by decide)).trans v.gone

/-! ## Operations of the History Unit -/

/-- The History Unit and the Link Interface alone may differ. -/
structure Recorded (s t : State) : Prop where
  eq : t = { s with hist := t.hist, link := t.link }

namespace Recorded

theorem refl (s : State) : Recorded s s := ⟨rfl⟩
theorem trans (h : Recorded s t) (k : Recorded t u) : Recorded s u := ⟨by rw [k.eq, h.eq]⟩

theorem bays (h : Recorded s t) : t.bays = s.bays := (congrArg State.bays h.eq :)
theorem chans (h : Recorded s t) : t.chans = s.chans := (congrArg State.chans h.eq :)
theorem bay (h : Recorded s t) (x : BayId) : t.bay x = s.bay x := by simp [State.bay, h.bays]
theorem chan (h : Recorded s t) (x : ChanId) : t.chan x = s.chan x := by simp [State.chan, h.chans]
theorem seg (h : Recorded s t) (g : Segment) : t.seg g = s.seg g := by rw [h.eq]; cases g <;> rfl
theorem busEntry (h : Recorded s t) (x : BayId) (k : EntryClass) : t.busEntry x k = s.busEntry x k := by
  simp [State.busEntry, h.seg]

theorem raise (h : Recorded s t) (n : Notice) : Recorded s (t.raise n) := h.trans ⟨by simpa using t.raise_eq n⟩
theorem hist (h : Recorded s t) (x : HistoryUnit) : Recorded s { t with hist := x } := h.trans ⟨rfl⟩

theorem writeEntry (h : Recorded s t) (serial : Word64) (f : Entry → Entry) : Recorded s (t.writeEntry serial f) :=
  h.hist _

theorem refresh (h : Recorded s t) (x : BayId) : Recorded s (t.refresh x) := by
  rw [State.refresh_parts]
  exact h.hist _

theorem flushDone (h : Recorded s t) (serial : Word64) : Recorded s (t.flushDone serial) := by
  unfold State.flushDone
  split
  · exact h.trans ⟨rfl⟩
  · exact h

theorem dropEntry (h : Recorded s t) (serial : Word64) : Recorded s (t.dropEntry serial) :=
  Recorded.flushDone (Recorded.hist (Recorded.hist h _) _) _

theorem loseInk (h : Recorded s t) (ev : HistoryEvent) (serial : Word64) (a c d : Nat) :
    Recorded s (t.loseInk ev serial a c d) := Recorded.raise (Recorded.hist (Recorded.hist h _) _) _

theorem evict (h : Recorded s t) (e : Entry) : Recorded s (t.evict e) := by
  unfold State.evict
  dsimp only
  split
  · exact h.dropEntry _
  · exact (h.dropEntry _).loseInk _ _ _ _ _

theorem readyStamp (h : Recorded s t) : Recorded s t.readyStamp := by
  unfold State.readyStamp
  split
  · exact h
  · exact h.hist _

theorem createEntry (h : Recorded s t) {i : Identity} {x : BayId} {pin : Option BayId} {c o : Nat}
    (k : t.createEntry i x pin c o = some u) : Recorded s u := by
  unfold State.createEntry at k
  split at k
  · cases k
    exact h.readyStamp.hist _
  · split at k
    · cases k
      exact (h.evict _).readyStamp.hist _
    · cases k

theorem carryOrphan (h : Recorded s t) (x : BayId) (i : Identity) (n : Nat) : Recorded s (t.carryOrphan x i n) := by
  unfold State.carryOrphan
  split
  · exact h
  · split
    · split
      · exact h.loseInk _ _ _ _ _
      · exact h.writeEntry _ _
    · split
      · next hc => exact h.createEntry hc
      · exact h.loseInk _ _ _ _ _

theorem releaseCartridge (h : Recorded s t) (x : BayId) : Recorded s (t.releaseCartridge x) := by
  unfold State.releaseCartridge
  split
  · exact h
  · split
    · exact (h.refresh x).writeEntry _ _
    · exact h.carryOrphan _ _ _

end Recorded

/-! ## The cartridge's entry -/

/-- The release of a pinned entry: it is refreshed from the record, and unpinned (R140). -/
theorem State.releaseCartridge_entry {e : Entry} {i : Identity} (h : s.pinnedBy b = some e)
    (hi : (s.bay b).identity = some i) :
    ∃ x ∈ (s.releaseCartridge b).hist.table, x.slot = e.slot ∧ x.pin = none ∧ x.dirty.isSome = true ∧
      x.data = refreshData (s.bay b) i b (s.meterAccepted b) e.data := by
  have hrel : s.releaseCartridge b = (s.refresh b).writeEntry e.data.serial Entry.unpin := by
    unfold State.releaseCartridge
    rw [hi]
    dsimp only
    rw [h]
  have hmem : s.refreshed b e ∈ (s.refresh b).hist.table := by
    rw [State.refresh_table]
    exact List.mem_map.mpr ⟨e, (State.pinnedBy_mem h).1, rfl⟩
  refine ⟨(Entry.unpin (s.refreshed b e)).touch (s.refresh b).hist.writeOrder, ?_, ?_, rfl, rfl, ?_⟩
  · rw [hrel]
    refine List.mem_map.mpr ⟨_, hmem, ?_⟩
    rw [if_pos (by simp [(s.refreshed_key b e).1])]
  · exact (s.refreshed_key b e).2.2.1
  · rw [State.refreshed_of_pinned h hi]
    rfl

/-! ## The removal -/

theorem State.bay_clearFormer (b x : BayId) : (s.clearFormer b).bay x = s.bay x := by
  unfold State.clearFormer
  dsimp only
  split <;> simp [State.modChan]

theorem Chosen.tellRemoved : Chosen (bayChan b) s (s.tellRemoved b) := by
  refine Chosen.choose ?_
  unfold State.clearFormer
  dsimp only
  split
  · exact ((Chosen.refl _ _).setChan _).raise _
  · exact .refl _ _

/-- The record before the Channel Unit is told. -/
def State.bayRemoved (s : State) (b : BayId) : State :=
  (((s.removalCleanup b).releaseCartridge b).modBay b Bay.removed).noteEmptied b

theorem State.removal_eq (b : BayId) : s.removal b = ((s.bayRemoved b).raise (.bay b)).tellRemoved b := rfl

/-- Outside the segment's exchange a removal is a path of the bay's operations. -/
theorem State.bayRemoved_acts (b : BayId) :
    ∃ v, Acts b (s.forgetBay b) v ∧ s.bayRemoved b = v.noteEmptied b :=
  ⟨_, ((State.removalCleanup_spec b).2.2.2.releaseCartridge b).modBay _, rfl⟩

theorem State.removal_elsewhere (b : BayId) :
    s.baysElsewhere (s.removal b) (bayChan b) ∧ s.otherChans (s.removal b) (bayChan b) ∧
      (∀ g, g ≠ baySeg b → (s.removal b).seg g = s.seg g) ∧
      Told (s.removal b).link (.bay b) ∧ (s.removal b).link.tx = s.link.tx := by
  obtain ⟨v, hv, heq⟩ := s.bayRemoved_acts b
  have w := hv.around
  have c := Chosen.tellRemoved (s := (s.bayRemoved b).raise (.bay b)) (b := b)
  rw [← State.removal_eq] at c
  refine ⟨fun x hx => ?_, fun x hx => ?_, fun g hg => ?_, c.told _ (State.told_raise (.bay b)), ?_⟩
  · rw [c.elsewhere x hx, State.bay_raise, heq]
    exact (w.elsewhere x hx).trans (by simp [State.forgetBay])
  · rw [c.chans x hx, State.chan_raise, heq]
    exact (w.chans x hx).trans (by simp [State.forgetBay])
  · rw [c.seg, State.seg_raise, heq]
    exact (w.segs g hg).trans (s.seg_modSeg_ne hg _)
  · rw [c.notes.tx, State.raise_tx, heq]
    exact w.tx.trans (by simp [State.forgetBay])

theorem State.bay_noteEmptied (x : BayId) : (s.noteEmptied b).bay x = s.bay x := rfl

/-- The record of the removed bay, and its queue. -/
theorem State.removal_bay (b : BayId) :
    (s.removal b).bay b = ((s.removalCleanup b).bay b).removed ∧ (∀ k, (s.removal b).busEntry b k = none) ∧
      (s.removal b).hist = ((s.removalCleanup b).releaseCartridge b).hist := by
  obtain ⟨-, hgone, -, -⟩ := s.removalCleanup_spec b
  have r : Recorded (s.removalCleanup b) _ := (Recorded.refl _).releaseCartridge b
  have c := Chosen.tellRemoved (s := (s.bayRemoved b).raise (.bay b)) (b := b)
  have hb : (s.bayRemoved b).bay b = ((s.removalCleanup b).bay b).removed := by
    rw [State.bayRemoved, State.bay_noteEmptied, State.bay_modBay, r.bay]
  rw [State.removal_eq]
  refine ⟨?_, fun k => ?_, ?_⟩
  · rw [State.tellRemoved, State.bay_choose_out, State.bay_clearFormer, State.bay_raise, hb]
    all_goals
      rw [State.bay_clearFormer, State.bay_raise, hb]
      simp [Bay.removed, Bay.reset]
  · rw [c.busEntry]
    refine Eq.trans ?_ (hgone k)
    rw [← r.busEntry, State.busEntry_eq_find, State.busEntry_eq_find]
    simp [State.bayRemoved]
    rfl
  · rw [c.hist, State.raise_hist]
    rfl

theorem exec_presenceDebounceExpiry_fall {due : Nat} (hdue : (s.bay b).debounceAt = some due)
    (hraw : s.rawPresence b = false) (hdeb : (s.bay b).debounced = true) :
    exec (.presenceDebounceExpiry b) s =
      .next ((((s.advanceTo due).modBay b (fun v => { v with debounceAt := none })).removal b).conclude) := by
  have hraw' : ((s.advanceTo due).modBay b (fun v => { v with debounceAt := none })).rawPresence b = false := hraw
  simp only [exec, execPresenceDebounceExpiry, hdue, hraw']
  simp [hdeb]

/-- The timers and the last outcome do not go into the entry. -/
theorem refreshData_cutAdvance (v : Bay) (m : Option BusEntry) (at' : Option Nat) (o : Option BusOutcome) (i : Identity)
    (z : Bool) (d : EntryData) :
    refreshData { ({ v with debounceAt := at' } : Bay).cutAdvance m with lastOutcome := o } i b z d =
      refreshData (v.cutAdvance m) i b z d := by
  unfold Bay.cutAdvance
  repeat' split
  all_goals rfl

theorem Bay.cutAdvance_identity (v : Bay) (m : Option BusEntry) : (v.cutAdvance m).identity = v.identity := by
  unfold Bay.cutAdvance
  repeat' split
  all_goals rfl

theorem Bay.removed_cutAdvance (v : Bay) (m : Option BusEntry) (at' : Option Nat) (o : Option BusOutcome) :
    ({ ({ v with debounceAt := at' } : Bay).cutAdvance m with lastOutcome := o } : Bay).removed =
      { v.removed with lastOutcome := o } := by
  unfold Bay.cutAdvance
  repeat' split
  all_goals rfl

/-- The record as the debounce timer's expiry finds it. -/
def State.debounceDone (s : State) (b : BayId) (due : Nat) : State :=
  (s.advanceTo due).modBay b (fun v => { v with debounceAt := none })

theorem State.bay_debounceDone (b : BayId) (due : Nat) :
    (s.debounceDone b due).bay b = { s.bay b with debounceAt := none } := by simp [State.debounceDone]

theorem State.busEntry_debounceDone (b : BayId) (due : Nat) (k : EntryClass) :
    (s.debounceDone b due).busEntry b k = s.busEntry b k := by simp [State.debounceDone]

/-- The entry the removed bay pinned. -/
theorem State.removal_entry {e : Entry} {i : Identity} (h : s.pinnedBy b = some e) (hi : (s.bay b).identity = some i) :
    ∃ x ∈ (s.removal b).hist.table, x.slot = e.slot ∧ x.pin = none ∧ x.dirty.isSome = true ∧
      x.data = refreshData ((s.removalCleanup b).bay b) i b false e.data := by
  obtain ⟨hbay, hgone, hhist, -⟩ := s.removalCleanup_spec b
  have haccepted : (s.removalCleanup b).meterAccepted b = false := by
    unfold State.meterAccepted
    rw [hgone]
  have hpin : (s.removalCleanup b).pinnedBy b = some e := by
    rw [← h]
    unfold State.pinnedBy
    rw [hhist]
  have hident : ((s.removalCleanup b).bay b).identity = some i := by
    rw [hbay]
    exact (Bay.cutAdvance_identity _ _).trans hi
  rw [(s.removal_bay b).2.2, ← haccepted]
  exact State.releaseCartridge_entry hpin hident

/-- Settles O14: the queue is emptied first, so the release refreshes the entry from the figures a cut ADVANCE left; the
Channel Unit's choice at the end finds an EMPTY bay. -/
theorem removalEmptiesTheBay : Obligations.RemovalEmptiesTheBay := by
  intro s b due hdue hraw hdeb
  have hexec : exec (.presenceDebounceExpiry b) s = .next ((s.debounceDone b due).removal b).conclude :=
    exec_presenceDebounceExpiry_fall hdue hraw hdeb
  have hw : Within (s.debounceDone b due) ((s.debounceDone b due).removal b).conclude := ((Within.refl _).removal b).conclude
  have hbay := State.bay_debounceDone (s := s) b due
  have hbus := State.busEntry_debounceDone (s := s) b due
  obtain ⟨hclean, -, -, -⟩ := (s.debounceDone b due).removalCleanup_spec b
  obtain ⟨hrecord, hgone, -⟩ := (s.debounceDone b due).removal_bay b
  obtain ⟨hbays, hchans, hsegs, htold, htx⟩ := (s.debounceDone b due).removal_elsewhere b
  simp only [hbus, hbay] at hclean
  refine ⟨((s.debounceDone b due).removal b).conclude, hexec, ?_, fun k => ?_, fun g hg => ?_, fun e i he hi => ?_, State.told_conclude htold htx, fun x hx => ?_,
    fun x hx => ?_, ?_⟩
  · refine (State.bay_conclude _ _).trans (hrecord.trans ?_)
    rw [hclean, Bay.removed_cutAdvance]
    rfl
  · exact (State.busEntry_conclude _ _).trans (hgone k)
  · exact (State.seg_conclude _ _).trans ((hsegs g hg).trans (by simp [State.debounceDone]))
  · obtain ⟨x, hx, hslot, hpin, hdirty, hdata⟩ :=
      State.removal_entry (s := s.debounceDone b due) (b := b) he (by rw [hbay]; exact hi)
    refine ⟨x, by rw [State.conclude_hist_table]; exact hx, hslot, hpin, hdirty, ?_⟩
    rw [hdata, hclean, refreshData_cutAdvance]
    cases hm : s.busEntry b .meter <;> rfl
  · refine (State.bay_conclude _ _).trans ((hbays x hx).trans ?_)
    rw [State.debounceDone, State.bay_modBay_ne _ (by rintro rfl; exact hx rfl)]
    simp
  · exact (State.chan_conclude _ _).trans ((hchans x hx).trans (by simp [State.debounceDone]))
  · generalize ((s.debounceDone b due).removal b).conclude = t at hw ⊢
    exact hw.parts

end Sys2Proof.Machine

/-! What a policy test, a scoring, a verdict evaluation and a level test can do to their bay, its pinned entry and its
queue (R17, R43, R91, R92, R119, R120, R125, R127, R128): `Tested b s t` holds of their composition. They move the bay
among its states and raise verdicts; of the consumption figures they touch only the in-flight figure of a METER entry
that has sent its frame. -/

namespace Sys2Proof.Machine

variable {s t u : State} {b : BayId}

/-! ## The figures -/

/-- The METER entry, if there is one, has sent no write frame: no in-flight figure rests on it. -/
def State.meterIdle (s : State) (b : BayId) : Prop :=
  ∀ e, s.busEntry b .meter = some e → e.sent = false ∧ e.split = none

theorem State.meterIdle.accepted (h : s.meterIdle b) : s.meterAccepted b = false := by
  unfold State.meterAccepted
  split
  · next e he => simp [(h e he).2]
  · rfl

theorem State.meterIdle.of_busEntry (h : s.meterIdle b) (k : t.busEntry b .meter = s.busEntry b .meter) :
    t.meterIdle b := fun e he => h e (k ▸ he)

theorem State.meterIdle.of_none (h : t.busEntry b .meter = none) : t.meterIdle b := fun e he => by simp [h] at he

/-- The record still holds the same cartridge, with its committed, doubt and authentication. -/
def Bay.holdsSame (v w : Bay) : Prop := w = { v with
  state := w.state, step := w.step, refusal := w.refusal, observed := w.observed, verdict := w.verdict
  score := w.score, inFlight := w.inFlight, owing := w.owing, writeBackAt := w.writeBackAt, relinkAt := w.relinkAt
  lowWarned := w.lowWarned, countedOut := w.countedOut, probeEmptySeen := w.probeEmptySeen, linkLost := w.linkLost
  overdrawScored := w.overdrawScored, lastOutcome := w.lastOutcome, ctx := w.ctx
  waitRechallenge := w.waitRechallenge, waitMark := w.waitMark, returnAwaited := w.returnAwaited }

theorem Bay.holdsSame.refl (v : Bay) : v.holdsSame v := rfl
theorem Bay.holdsSame.trans {v w x : Bay} (h : v.holdsSame w) (k : w.holdsSame x) : v.holdsSame x := by
  unfold Bay.holdsSame at *
  rw [k, h]

namespace Bay.holdsSame
variable {v w : Bay}
theorem auth (h : v.holdsSame w) : w.auth = v.auth := (congrArg Bay.auth h :)
theorem identity (h : v.holdsSame w) : w.identity = v.identity := (congrArg Bay.identity h :)
theorem committed (h : v.holdsSame w) : w.committed = v.committed := (congrArg Bay.committed h :)
theorem doubt (h : v.holdsSame w) : w.doubt = v.doubt := (congrArg Bay.doubt h :)
theorem writeBacks (h : v.holdsSame w) : w.writeBacks = v.writeBacks := (congrArg Bay.writeBacks h :)
theorem challengeFailCtr (h : v.holdsSame w) : w.challengeFailCtr = v.challengeFailCtr :=
  (congrArg Bay.challengeFailCtr h :)
theorem writeBacksCtr (h : v.holdsSame w) : w.writeBacksCtr = v.writeBacksCtr := (congrArg Bay.writeBacksCtr h :)
theorem probe (h : v.holdsSame w) : w.probe = v.probe := (congrArg Bay.probe h :)
end Bay.holdsSame

/-- No challenge exchange begins: one begins only for a re-challenge that waits on a GENUINE bay. -/
structure Bay.rests (v w : Bay) : Prop where
  waits : v.waitRechallenge = false → w.waitRechallenge = false
  exch : v.waitRechallenge = false ∨ v.auth ≠ .genuine →
    w.ctx.key = v.ctx.key ∧ (v.ctx.exchange = .none → w.ctx.exchange = .none)

theorem Bay.rests.refl (v : Bay) : v.rests v := ⟨id, fun _ => ⟨rfl, id⟩⟩

theorem Bay.rests.trans {v w x : Bay} (h : v.rests w) (k : w.rests x) (ha : w.auth = v.auth) : v.rests x where
  waits n := k.waits (h.waits n)
  exch n := by
    obtain ⟨h1, h2⟩ := h.exch n
    obtain ⟨k1, k2⟩ := k.exch (n.imp h.waits (fun a => ha ▸ a))
    exact ⟨k1.trans h1, fun e => k2 (h2 e)⟩

/-- A record whose exchange ends, or stays, and for which no re-challenge comes to wait. -/
theorem Bay.rests.of_ctx {v w : Bay} (hw : w.waitRechallenge = v.waitRechallenge ∨ w.waitRechallenge = false)
    (hk : w.ctx.key = v.ctx.key) (hx : w.ctx.exchange = v.ctx.exchange ∨ w.ctx.exchange = .none) : v.rests w where
  waits n := by
    rcases hw with h | h
    · exact h.trans n
    · exact h
  exch _ := ⟨hk, fun e => by
    rcases hx with h | h
    · exact h.trans e
    · exact h⟩

/-- A change of the record that moves no figure, no step and no challenge exchange. -/
structure Bay.Minor (f : Bay → Bay) : Prop where
  same : ∀ v : Bay, v.holdsSame (f v) := by intro v; rfl
  inFlight : ∀ v : Bay, (f v).inFlight = v.inFlight := by intro v; rfl
  owing : ∀ v : Bay, (f v).owing = v.owing := by intro v; rfl
  step : ∀ v : Bay, (f v).step = v.step := by intro v; rfl
  waiting : ∀ v : Bay, (f v).waitRechallenge = v.waitRechallenge := by intro v; rfl
  exchange : ∀ v : Bay, (f v).ctx.exchange = v.ctx.exchange := by intro v; rfl
  key : ∀ v : Bay, (f v).ctx.key = v.ctx.key := by intro v; rfl
  observed : ∀ v : Bay, (f v).observed = v.observed := by intro v; rfl
  verdict : ∀ v : Bay, (f v).verdict = v.verdict := by intro v; rfl

/-- The cartridge of bay `b` and its figures are kept, those of an ADVANCE that has sent its frame apart. -/
structure Figured (b : BayId) (s t : State) : Prop where
  bay : (s.bay b).holdsSame (t.bay b)
  idle : s.meterIdle b → t.meterIdle b
  flow : s.meterIdle b → (t.bay b).inFlight = (s.bay b).inFlight ∧ (t.bay b).owing = (s.bay b).owing
  step : (t.bay b).step = (s.bay b).step ∨ (t.bay b).step = none

theorem State.busEntry_enqueue_ne {k l : EntryClass} (h : l ≠ k) (op : BusOp) (x : Option LinkStep) :
    (s.enqueue b k op x).busEntry b l = s.busEntry b l := by
  rw [State.busEntry_eq_find, State.busEntry_eq_find, State.seg_enqueue, List.find?_append]
  have hno : (newBusEntry b k op x s.now).isFor b l = false := by
    rw [Bool.eq_false_iff, Ne, BusEntry.isFor_iff]
    exact fun e => h e.2.symm
  simp [hno]

namespace Figured

theorem refl (b : BayId) (s : State) : Figured b s s := ⟨.refl _, id, fun _ => ⟨rfl, rfl⟩, .inl rfl⟩

theorem trans (h : Figured b s t) (k : Figured b t u) : Figured b s u where
  bay := h.bay.trans k.bay
  idle i := k.idle (h.idle i)
  flow i := by
    obtain ⟨h1, h2⟩ := h.flow i
    obtain ⟨k1, k2⟩ := k.flow (h.idle i)
    exact ⟨k1.trans h1, k2.trans h2⟩
  step := by
    rcases k.step with k1 | k1
    · rw [k1]; exact h.step
    · exact .inr k1

theorem step_none (h : Figured b s t) (k : (s.bay b).step = none) : (t.bay b).step = none := by
  rcases h.step with h1 | h1
  · rw [h1, k]
  · exact h1

/-- An operation that leaves the bay's record and its METER entry alone. -/
theorem of_eq (hb : t.bay b = s.bay b) (hm : t.busEntry b .meter = s.busEntry b .meter) : Figured b s t :=
  ⟨by rw [hb]; exact .refl _, fun h => h.of_busEntry hm, fun _ => by rw [hb]; exact ⟨rfl, rfl⟩, .inl (by rw [hb])⟩

theorem modBay (h : Figured b s t) (f : Bay → Bay) (hf : (t.bay b).holdsSame (f (t.bay b)))
    (hflow : (f (t.bay b)).inFlight = (t.bay b).inFlight ∧ (f (t.bay b)).owing = (t.bay b).owing)
    (hstep : (f (t.bay b)).step = (t.bay b).step ∨ (f (t.bay b)).step = none) : Figured b s (t.modBay b f) :=
  h.trans ⟨by simpa using hf, fun i => i.of_busEntry (by simp), fun _ => by simpa using hflow, by simpa using hstep⟩

theorem dequeueMeter (h : Figured b s t) : Figured b s (t.dequeue b .meter) :=
  h.trans ⟨by simpa using Bay.holdsSame.refl _, fun _ => .of_none (State.busEntry_dequeue _ _), fun _ => by simp, by simp⟩

theorem dequeue (h : Figured b s t) (k : EntryClass) : Figured b s (t.dequeue b k) := by
  by_cases hk : k = .meter
  · rw [hk]
    exact h.dequeueMeter
  · exact h.trans (of_eq (by simp) (State.busEntry_dequeue_ne (fun e => hk e.symm)))

end Figured

/-! ## The pinned entry -/

/-- The table is rewritten entry by entry; the entries that `b` does not pin stay as they are. -/
structure Retold (b : BayId) (s t : State) (f : Entry → Entry) : Prop where
  table : t.hist.table = s.hist.table.map f
  key : ∀ x, (f x).pin = x.pin ∧ (f x).data.serial = x.data.serial ∧ (f x).slot = x.slot ∧
    (f x).data.marked = x.data.marked
  others : s.serialsDistinct → ∀ x ∈ s.hist.table, x.pin ≠ some b → f x = x

namespace Retold
variable {f g : Entry → Entry}

theorem of_eq (h : t.hist.table = s.hist.table) : Retold b s t id :=
  ⟨by rw [h, List.map_id], fun _ => ⟨rfl, rfl, rfl, rfl⟩, fun _ _ _ _ => rfl⟩

theorem serialsDistinct (h : Retold b s t f) (k : s.serialsDistinct) : t.serialsDistinct := by
  have hserials : t.hist.serials = s.hist.serials := by
    unfold HistoryUnit.serials
    rw [h.table, List.map_map]
    exact List.map_congr_left fun x _ => (h.key x).2.1
  unfold State.serialsDistinct
  rw [hserials]
  exact k

theorem trans (h : Retold b s t f) (k : Retold b t u g) : Retold b s u (g ∘ f) where
  table := by rw [k.table, h.table, List.map_map]
  key x := by
    obtain ⟨h1, h2, h3, h4⟩ := h.key x
    obtain ⟨k1, k2, k3, k4⟩ := k.key (f x)
    exact ⟨k1.trans h1, k2.trans h2, k3.trans h3, k4.trans h4⟩
  others d x hx hp := by
    have hself := h.others d x hx hp
    rw [Function.comp_apply, hself]
    refine k.others (h.serialsDistinct d) x ?_ hp
    rw [h.table]
    exact List.mem_map.mpr ⟨x, hx, hself⟩

theorem pinnedBy (h : Retold b s t f) (c : BayId) : t.pinnedBy c = (s.pinnedBy c).map f := by
  unfold State.pinnedBy
  rw [h.table]
  exact find_map _ _ (fun x => by rw [(h.key x).1]) _

/-- Rewriting the entry that `b` pins by its serial. -/
theorem of_pinned {e : Entry} (he : s.pinnedBy b = some e) (f : Entry → Entry)
    (hf : ∀ x, (f x).pin = x.pin ∧ (f x).data.serial = x.data.serial ∧ (f x).slot = x.slot ∧
      (f x).data.marked = x.data.marked)
    (h : t.hist.table = s.hist.table.map (fun x => if x.data.serial = e.data.serial then f x else x)) :
    Retold b s t (fun x => if x.data.serial = e.data.serial then f x else x) := by
  refine ⟨h, fun x => ?_, fun d x hx hp => if_neg fun k => hp ?_⟩
  · split
    · exact hf x
    · exact ⟨rfl, rfl, rfl, rfl⟩
  · rw [d.eq hx (State.pinnedBy_mem he).1 k]
    exact (State.pinnedBy_mem he).2

end Retold

/-- The record's verdict is that of the entry it pins (R116). -/
def State.tracks (s : State) (b : BayId) : Prop := ∀ e, s.pinnedBy b = some e → e.data.verdict = (s.bay b).verdict

/-- The pinned entry holds the record's committed and doubt, and no ADVANCE runs that could change them (R138). -/
def State.booked (s : State) (b : BayId) : Prop :=
  s.meterIdle b ∧ ∀ e, s.pinnedBy b = some e →
    e.data.confirmed = (s.bay b).committed ∧ e.data.inDoubt = fit48 (s.bay b).doubt

/-- The verdict of the pinned entry has not moved lower. -/
def State.rankKept (s t : State) (b : BayId) : Prop :=
  ∀ e x, s.pinnedBy b = some e → t.pinnedBy b = some x → e.data.verdict.rank ≤ x.data.verdict.rank

/-- See the head of this file. -/
structure Tested (b : BayId) (s t : State) : Prop extends Figured b s t where
  rests : (s.bay b).rests (t.bay b)
  /-- on a bay that is not GENUINE a free SETUP entry is taken by an IDENT that waits only, and the link-up goes on -/
  setup : (s.bay b).auth ≠ .genuine → (s.bay b).step ≠ some .ident → s.busEntry b .setup = none →
    t.busEntry b .setup = none ∧ (t.bay b).step = (s.bay b).step ∧ (t.bay b).observed = (s.bay b).observed
  retold : ∃ f, Retold b s t f
  verdict : s.tracks b → t.tracks b ∧ s.rankKept t b
  booked : s.booked b → t.booked b
  notes : s.link.waiting = none → NoteOnly s.link t.link

namespace Tested

theorem refl (b : BayId) (s : State) : Tested b s s where
  toFigured := .refl b s
  rests := .refl _
  setup _ _ h := ⟨h, rfl, rfl⟩
  retold := ⟨id, .of_eq rfl⟩
  verdict h := ⟨h, fun e x he hx => by rw [he] at hx; cases hx; exact Nat.le_refl _⟩
  booked h := h
  notes _ := .refl _

theorem trans (h : Tested b s t) (k : Tested b t u) : Tested b s u where
  toFigured := h.toFigured.trans k.toFigured
  rests := h.rests.trans k.rests h.bay.auth
  setup a st n := by
    obtain ⟨h1, h2, h3⟩ := h.setup a st n
    obtain ⟨k1, k2, k3⟩ := k.setup (by rw [h.bay.auth]; exact a) (by rw [h2]; exact st) h1
    exact ⟨k1, k2.trans h2, k3.trans h3⟩
  retold := by
    obtain ⟨f, hf⟩ := h.retold
    obtain ⟨g, hg⟩ := k.retold
    exact ⟨_, hf.trans hg⟩
  verdict w := by
    obtain ⟨h1, h2⟩ := h.verdict w
    obtain ⟨k1, k2⟩ := k.verdict h1
    obtain ⟨f, hf⟩ := h.retold
    refine ⟨k1, fun e x he hx => ?_⟩
    have hmid : t.pinnedBy b = some (f e) := by rw [hf.pinnedBy, he, Option.map_some]
    exact (h2 e (f e) he hmid).trans (k2 (f e) x hmid hx)
  booked w := k.booked (h.booked w)
  notes w := (h.notes w).trans (k.notes (by rw [(h.notes w).eq, w]))

/-- An operation that leaves the table and the link alone, and the record's verdict. -/
theorem of_figured (h : Figured b s t)
    (hrests : (s.bay b).rests (t.bay b))
    (hsetup : (s.bay b).auth ≠ .genuine → (s.bay b).step ≠ some .ident → s.busEntry b .setup = none →
      t.busEntry b .setup = none ∧ (t.bay b).step = (s.bay b).step ∧ (t.bay b).observed = (s.bay b).observed)
    (htable : t.hist.table = s.hist.table) (hverdict : (t.bay b).verdict = (s.bay b).verdict)
    (hnotes : s.link.waiting = none → NoteOnly s.link t.link) : Tested b s t := by
  have hpin : t.pinnedBy b = s.pinnedBy b := by unfold State.pinnedBy; rw [htable]
  exact {
    toFigured := h
    rests := hrests
    setup := hsetup
    retold := ⟨id, .of_eq htable⟩
    verdict := fun w => ⟨fun e he => by rw [hverdict]; exact w e (hpin ▸ he), fun e x he hx => by
      rw [hpin, he] at hx
      cases hx
      exact Nat.le_refl _⟩
    booked := fun w => ⟨h.idle w.1, fun e he => by
      rw [h.bay.committed, h.bay.doubt]
      exact w.2 e (hpin ▸ he)⟩
    notes := hnotes }

/-- A change of the record that moves no figure and no step. -/
theorem modBay (h : Tested b s t) (f : Bay → Bay) (hf : (t.bay b).holdsSame (f (t.bay b)))
    (hflow : (f (t.bay b)).inFlight = (t.bay b).inFlight ∧ (f (t.bay b)).owing = (t.bay b).owing)
    (hstep : (f (t.bay b)).step = (t.bay b).step ∧ (f (t.bay b)).observed = (t.bay b).observed)
    (hrests : (t.bay b).rests (f (t.bay b)))
    (hverdict : (f (t.bay b)).verdict = (t.bay b).verdict) : Tested b s (t.modBay b f) :=
  h.trans (of_figured ((Figured.refl b t).modBay f hf hflow (.inl hstep.1)) (by simpa using hrests)
    (fun _ _ n => ⟨by simpa using n, by simpa using hstep.1, by simpa using hstep.2⟩) rfl
    (by simpa using hverdict) (fun _ => .refl _))

/-- A change of the record that moves no figure, no step and no challenge exchange. -/
theorem minor (h : Tested b s t) (f : Bay → Bay) (hf : Bay.Minor f := by exact {}) : Tested b s (t.modBay b f) :=
  h.modBay f (hf.same _) ⟨hf.inFlight _, hf.owing _⟩ ⟨hf.step _, hf.observed _⟩
    (.of_ctx (.inl (hf.waiting _)) (hf.key _) (.inl (hf.exchange _))) (hf.verdict _)

theorem raise (h : Tested b s t) (n : Notice) : Tested b s (t.raise n) :=
  h.trans (of_figured (.of_eq (by simp) (by simp [State.busEntry])) (by simpa using Bay.rests.refl _)
    (by simp [State.busEntry]) (by simp) (by simp) (fun _ => State.noteOnly_raise n))

theorem chosen (h : Tested b s t) (k : Chosen (bayChan b) t u) : Tested b s u := by
  have hbay := k.bay b
  refine h.trans (of_figured ⟨?_, fun i => i.of_busEntry (k.busEntry _ _), fun _ => ?_, ?_⟩ ?_ ?_ ?_ ?_ (fun _ => k.notes))
  · rw [hbay]; rfl
  · rw [hbay]; exact ⟨rfl, rfl⟩
  · rw [hbay]; exact .inl rfl
  · rw [hbay]; exact ⟨id, fun _ => ⟨rfl, id⟩⟩
  · rw [k.busEntry, hbay]; exact fun _ _ n => ⟨n, rfl, rfl⟩
  · rw [k.hist]
  · rw [hbay]

theorem tellChannel (h : Tested b s t) : Tested b s (t.tellChannel b) := h.chosen (Chosen.refl _ _).choose

/-- An operation that leaves the record, the table, the link and the SETUP entry alone. -/
theorem of_queue (hm : s.meterIdle b → t.meterIdle b) (hs : s.busEntry b .setup = none → t.busEntry b .setup = none)
    (hb : t.bay b = s.bay b) (hh : t.hist.table = s.hist.table) (hl : t.link = s.link) : Tested b s t :=
  of_figured ⟨by rw [hb]; exact .refl _, hm, fun _ => by rw [hb]; exact ⟨rfl, rfl⟩, .inl (by rw [hb])⟩
    (by rw [hb]; exact .refl _) (fun _ _ n => ⟨hs n, by rw [hb], by rw [hb]⟩) hh (by rw [hb]) (fun _ => .of_eq hl)

theorem enqueueSetup (h : Tested b s t) (op : BusOp) (x : Option LinkStep)
    (hq : (t.bay b).auth = .genuine ∨ (t.bay b).step = some .ident) :
    Tested b s (t.enqueue b .setup op x) := by
  refine h.trans (of_figured (.of_eq (by simp) (State.busEntry_enqueue_ne (by decide) _ _))
    (by simpa using Bay.rests.refl _) (fun a st _ => ?_) (by simp [State.enqueue]) (by simp)
    (fun _ => .of_eq (by simp [State.enqueue])))
  rcases hq with hq | hq
  · exact absurd hq a
  · exact absurd hq st

theorem enqueueMeter (h : Tested b s t) (hnone : t.busEntry b .meter = none) (op : BusOp) (x : Option LinkStep) :
    Tested b s (t.enqueue b .meter op x) := by
  refine h.trans (of_queue (fun _ e he => ?_) (fun n => ?_) (by simp) (by simp [State.enqueue]) (by simp [State.enqueue]))
  · rw [State.busEntry_enqueue hnone] at he
    cases he
    exact ⟨rfl, rfl⟩
  · rw [State.busEntry_enqueue_ne (by decide), n]

theorem dequeue (h : Tested b s t) (k : EntryClass) : Tested b s (t.dequeue b k) := by
  refine h.trans (of_queue ((Figured.refl b t).dequeue k).idle (fun n => ?_) (by simp) (by simp [State.dequeue])
    (by simp [State.dequeue]))
  by_cases hk : k = .setup
  · rw [hk]
    exact State.busEntry_dequeue _ _
  · rw [State.busEntry_dequeue_ne (fun e => hk e.symm), n]

end Tested

end Sys2Proof.Machine

/-! The operations of the Refill Unit and of a bay's policy test, each `Tested` (R17, R20, R43, R91, R92, R119 to R128). -/

namespace Sys2Proof.Machine

variable {s t u : State} {b : BayId}

/-! ## Writing the pinned entry -/

@[simp] theorem State.bay_writeEntry (x : Word64) (f : Entry → Entry) (c : BayId) : (s.writeEntry x f).bay c = s.bay c := rfl
@[simp] theorem State.chan_writeEntry (x : Word64) (f : Entry → Entry) (c : ChanId) :
    (s.writeEntry x f).chan c = s.chan c := rfl
@[simp] theorem State.busEntry_writeEntry (x : Word64) (f : Entry → Entry) (c : BayId) (k : EntryClass) :
    (s.writeEntry x f).busEntry c k = s.busEntry c k := rfl

/-- What a write of the pinned entry must keep of an entry. -/
structure SameBook (f : Entry → Entry) : Prop where
  pin : ∀ x, (f x).pin = x.pin
  serial : ∀ x, (f x).data.serial = x.data.serial
  slot : ∀ x, (f x).slot = x.slot
  marked : ∀ x, (f x).data.marked = x.data.marked
  verdict : ∀ x, (f x).data.verdict = x.data.verdict
  confirmed : ∀ x, (f x).data.confirmed = x.data.confirmed
  inDoubt : ∀ x, (f x).data.inDoubt = x.data.inDoubt

theorem Tested.of_write {e : Entry} (he : s.pinnedBy b = some e) {f : Entry → Entry} (hf : SameBook f)
    (h : t.hist.table = s.hist.table.map (fun x => if x.data.serial = e.data.serial then f x else x))
    (hbay : t.bay b = s.bay b) (hbus : ∀ k, t.busEntry b k = s.busEntry b k) (hlink : t.link = s.link) :
    Tested b s t := by
  have hret := Retold.of_pinned he f (fun x => ⟨hf.pin x, hf.serial x, hf.slot x, hf.marked x⟩) h
  have hpin : t.pinnedBy b = some (f e) := by
    rw [hret.pinnedBy, he, Option.map_some, if_pos rfl]
  exact {
    toFigured := .of_eq hbay (hbus _)
    rests := by rw [hbay]; exact .refl _
    setup := by rw [hbus, hbay]; exact fun _ _ n => ⟨n, rfl, rfl⟩
    retold := ⟨_, hret⟩
    verdict := fun w => ⟨fun x hx => by
        rw [hpin] at hx
        cases hx
        rw [hf.verdict, hbay]
        exact w e he, fun y x hy hx => by
        rw [hpin] at hx
        rw [he] at hy
        cases hx
        cases hy
        rw [hf.verdict]⟩
    booked := fun w => ⟨w.1.of_busEntry (hbus _), fun x hx => by
      rw [hpin] at hx
      cases hx
      rw [hf.confirmed, hf.inDoubt, hbay]
      exact w.2 e he⟩
    notes := fun _ => .of_eq hlink }

theorem Tested.writeEntry (h : Tested b s t) {e : Entry} (he : t.pinnedBy b = some e) {f : Entry → Entry}
    (hf : SameBook f) : Tested b s (t.writeEntry e.data.serial f) := by
  refine h.trans (.of_write he (f := fun x => (f x).touch t.hist.writeOrder) ?_ ?_ rfl (fun _ => rfl) rfl)
  · exact ⟨hf.pin, hf.serial, hf.slot, hf.marked, hf.verdict, hf.confirmed, hf.inDoubt⟩
  · simp [State.writeEntry]

theorem Tested.writeQuietly (h : Tested b s t) {e : Entry} (he : t.pinnedBy b = some e) {f : Entry → Entry}
    (hf : SameBook f) : Tested b s (t.writeQuietly e.data.serial f) := by
  refine h.trans (.of_write he hf ?_ rfl (fun _ => rfl) rfl)
  simp [State.writeQuietly]

/-! ## A verdict that rises -/

/-- The verdict is written to the pinned entry and the record, and the entry refreshed (R120, R128). -/
def State.raiseVerdict (s : State) (b : BayId) (e : Entry) (new : Verdict) : State :=
  ((s.writeEntry e.data.serial (Entry.withData (fun d => { d with verdict := new }))).modBay b
    (fun v => { v with verdict := new })).refresh b

theorem Retold.refresh (b : BayId) (s : State) : ∃ f, Retold b s (s.refresh b) f := by
  unfold State.refresh
  split
  · next e i he hi =>
    refine ⟨_, .of_pinned he (fun x => (Entry.withData (refreshData (s.bay b) i b (s.meterAccepted b)) x).touch
      s.hist.writeOrder) (fun _ => ⟨rfl, rfl, rfl, rfl⟩) ?_⟩
    simp [State.writeEntry]
  · exact ⟨id, .of_eq rfl⟩

/-- The entry a bay pins after its refresh. -/
theorem State.pinnedBy_of_refresh {x : Entry} (h : (s.refresh b).pinnedBy b = some x) :
    s.pinnedBy b = some x ∨ ∃ e i, s.pinnedBy b = some e ∧ (s.bay b).identity = some i ∧
      x.data = refreshData (s.bay b) i b (s.meterAccepted b) e.data := by
  rw [State.refresh_pinnedBy] at h
  obtain ⟨e, he, hx⟩ := Option.map_eq_some_iff.mp h
  cases hi : (s.bay b).identity with
  | none =>
    left
    rw [← hx, he]
    simp [State.refreshed, hi]
  | some i =>
    right
    refine ⟨e, i, he, rfl, ?_⟩
    rw [← hx, State.refreshed_of_pinned he hi]
    rfl

theorem State.bay_refresh (b c : BayId) : (s.refresh b).bay c = s.bay c := by rw [State.refresh_parts]; rfl
theorem State.seg_refresh (b : BayId) (g : Segment) : (s.refresh b).seg g = s.seg g := by
  rw [State.refresh_parts]; cases g <;> rfl
theorem State.busEntry_refresh (b c : BayId) (k : EntryClass) : (s.refresh b).busEntry c k = s.busEntry c k := by
  simp [State.busEntry, State.seg_refresh]

/-- A refresh of an entry whose verdict the record holds. -/
theorem Tested.refresh (h : Tested b s t) (w : ∀ e, t.pinnedBy b = some e → e.data.verdict = (t.bay b).verdict) :
    Tested b s (t.refresh b) := by
  have hverdict : ∀ x, (t.refresh b).pinnedBy b = some x → x.data.verdict = (t.bay b).verdict := fun x hx => by
    rcases State.pinnedBy_of_refresh hx with hx | ⟨e, i, -, -, hx⟩
    · exact w x hx
    · rw [hx]; rfl
  exact h.trans {
    toFigured := .of_eq (State.bay_refresh _ _) (State.busEntry_refresh _ _ _)
    rests := by rw [State.bay_refresh]; exact .refl _
    setup := by rw [State.busEntry_refresh, State.bay_refresh]; exact fun _ _ n => ⟨n, rfl, rfl⟩
    retold := Retold.refresh b t
    verdict := fun _ => ⟨fun x hx => by rw [State.bay_refresh]; exact hverdict x hx, fun e x he hx => by
      rw [hverdict x hx, w e he]⟩
    booked := fun k => ⟨k.1.of_busEntry (State.busEntry_refresh _ _ _), fun x hx => by
      rw [State.bay_refresh]
      rcases State.pinnedBy_of_refresh hx with hx | ⟨e, i, -, -, hx⟩
      · exact k.2 x hx
      · rw [hx, k.1.accepted]
        exact ⟨rfl, rfl⟩⟩
    notes := fun _ => .of_eq (by simp) }

/-- After a rise the record's verdict is the entry's. -/
theorem State.pinnedBy_raised {e : Entry} (he : s.pinnedBy b = some e) (new : Verdict) :
    ((s.writeEntry e.data.serial (Entry.withData (fun d => { d with verdict := new }))).modBay b
      (fun v => { v with verdict := new })).pinnedBy b =
      some ((Entry.withData (fun d => { d with verdict := new }) e).touch s.hist.writeOrder) := by
  have hret : Retold b s ((s.writeEntry e.data.serial (Entry.withData (fun d => { d with verdict := new }))).modBay b
      (fun v => { v with verdict := new })) _ :=
    .of_pinned he (fun x => (Entry.withData (fun d => { d with verdict := new }) x).touch s.hist.writeOrder)
      (fun _ => ⟨rfl, rfl, rfl, rfl⟩) (by simp [State.writeEntry])
  rw [hret.pinnedBy, he, Option.map_some, if_pos rfl]

/-- A rise keeps what `Tested` says; the rank it raises to need not be asked of the record. -/
theorem Tested.writeVerdict {e : Entry} (he : s.pinnedBy b = some e) {new : Verdict}
    (hrank : e.data.verdict.rank ≤ new.rank) :
    Tested b s ((s.writeEntry e.data.serial (Entry.withData (fun d => { d with verdict := new }))).modBay b
      (fun v => { v with verdict := new })) := by
  have hpin := State.pinnedBy_raised he new
  exact {
    toFigured := ⟨by simp [Bay.holdsSame], fun i => i.of_busEntry (by simp), fun _ => by simp, by simp⟩
    rests := by simpa using ⟨id, fun _ => ⟨rfl, id⟩⟩
    setup := by simp
    retold := ⟨_, .of_pinned he (fun x => (Entry.withData (fun d => { d with verdict := new }) x).touch s.hist.writeOrder)
      (fun _ => ⟨rfl, rfl, rfl, rfl⟩) (by simp [State.writeEntry])⟩
    verdict := fun _ => ⟨fun x hx => by
        rw [hpin] at hx
        cases hx
        simp [Entry.touch, Entry.withData], fun y x hy hx => by
        rw [hpin] at hx
        rw [he] at hy
        cases hx
        cases hy
        exact hrank⟩
    booked := fun w => ⟨w.1.of_busEntry (by simp), fun x hx => by
      rw [hpin] at hx
      cases hx
      simpa [Entry.touch, Entry.withData] using w.2 e he⟩
    notes := fun _ => .of_eq rfl }

/-- After a rise the record's verdict is the entry's, whatever it was before. -/
theorem State.tracks_writeVerdict {e : Entry} (he : s.pinnedBy b = some e) (new : Verdict) :
    ((s.writeEntry e.data.serial (Entry.withData (fun d => { d with verdict := new }))).modBay b
      (fun v => { v with verdict := new })).tracks b := by
  intro x hx
  rw [State.pinnedBy_raised he] at hx
  cases hx
  simp [Entry.touch, Entry.withData]

theorem Tested.raiseVerdict {e : Entry} (he : s.pinnedBy b = some e) {new : Verdict}
    (hrank : e.data.verdict.rank ≤ new.rank) : Tested b s (s.raiseVerdict b e new) :=
  (Tested.writeVerdict he hrank).refresh (State.tracks_writeVerdict he new)

end Sys2Proof.Machine

/-! Policy tests, scorings, verdict evaluations and level tests are `Tested`. -/

namespace Sys2Proof.Machine

variable {s t u : State} {b : BayId}

/-! ## Moves to LOST (R16, R43) -/

/-- The end of a SERVICE block does nothing, or there is a request that it answers or goes on with. -/
theorem State.serviceEnd_cases (b : BayId) (o : BusOutcome) (d : List Byte) :
    s.serviceEnd b o d = s ∨ s.link.waiting ≠ none ∧
      ((∃ r fs, s.serviceEnd b o d = s.finishRequest r fs false) ∨
        ∃ w op, s.serviceEnd b o d = ({ s with link := { s.link with waiting := w } }).enqueue b .service op none) := by
  unfold State.serviceEnd
  split
  · next h =>
    rw [h]
    repeat' split
    all_goals first | exact .inl rfl | exact .inr ⟨by simp, .inl ⟨_, _, rfl⟩⟩
  · next h =>
    rw [h]
    repeat' split
    all_goals
      first | exact .inl rfl | exact .inr ⟨by simp, .inl ⟨_, _, rfl⟩⟩ | exact .inr ⟨by simp, .inr ⟨_, _, rfl⟩⟩
  · exact .inl rfl

/-- A re-challenge that is not dropped is one of a GENUINE bay (R64). -/
theorem State.dropsRecheck_false (h : s.dropsRecheck b = false) : (s.bay b).auth = .genuine := by
  simp only [State.dropsRecheck, Bool.or_eq_false_iff] at h
  obtain ⟨⟨⟨⟨hauth, -⟩, -⟩, -⟩, -⟩ := h
  simpa using hauth

namespace Tested

theorem serviceEnd (h : Tested b s t) (o : BusOutcome) (d : List Byte) : Tested b s (t.serviceEnd b o d) := by
  have hcases := t.serviceEnd_cases b o d
  generalize t.serviceEnd b o d = u at hcases ⊢
  rcases hcases with rfl | ⟨hw, ⟨r, fs, rfl⟩ | ⟨w, op, rfl⟩⟩
  · exact h
  · exact h.trans (of_figured (.of_eq (by simp) (by simp)) (by simpa using Bay.rests.refl _) (by simp) (by simp)
      (by simp) (fun k => absurd k hw))
  · refine h.trans (of_figured (.of_eq (by simp; rfl) ?_) ?_ (fun _ _ n => ⟨?_, ?_, ?_⟩) (by simp [State.enqueue]) ?_
      (fun k => absurd k hw))
    · rw [State.busEntry_enqueue_ne (by decide)]
      rfl
    · rw [State.bay_enqueue]
      exact .refl _
    · rw [State.busEntry_enqueue_ne (by decide)]
      exact n
    all_goals
      rw [State.bay_enqueue]
      rfl

theorem noteOutcome (h : Tested b s t) (o : BusOutcome) : Tested b s (t.noteOutcome b o) :=
  h.minor _

/-- The METER entry that a move to LOST ends has sent no frame, or its in-flight figure goes back to pending. -/
theorem clearLostMeter (h : Tested b s t) : Tested b s (t.clearLostMeter b) := by
  unfold State.clearLostMeter
  split
  · exact h
  · next e he =>
    split
    · exact h
    · split
      · next hsent =>
        have w := (h.dequeue .meter).noteOutcome .noReply
        dsimp only
        split
        · exact w
        · have k : Tested b t (((t.dequeue b .meter).noteOutcome b .noReply).modBay b Bay.returnInFlight) := by
            refine of_figured ⟨?_, fun i => absurd hsent (by simp [(i e he).1]),
              fun i => absurd hsent (by simp [(i e he).1]), ?_⟩ ?_ ?_ ?_ ?_ (fun _ => .of_eq ?_)
            · simp [State.noteOutcome, Bay.returnInFlight, Bay.holdsSame]
            · simp [State.noteOutcome, Bay.returnInFlight]
            · simpa [State.noteOutcome, Bay.returnInFlight] using ⟨id, fun _ => ⟨rfl, id⟩⟩
            · intro _ _ n
              refine ⟨?_, by simp [State.noteOutcome, Bay.returnInFlight], by simp [State.noteOutcome, Bay.returnInFlight]⟩
              rw [State.noteOutcome, State.busEntry_modBay, State.busEntry_modBay, State.busEntry_dequeue_ne (by decide), n]
            · simp [State.noteOutcome, State.dequeue]
            · simp [State.noteOutcome, Bay.returnInFlight]
            · simp [State.noteOutcome, State.dequeue]
          exact h.trans k
      · exact h.dequeue _

theorem clearLostService (h : Tested b s t) : Tested b s (t.clearLostService b) := by
  unfold State.clearLostService
  repeat' split
  · exact h
  · exact h
  · exact ((h.dequeue _).noteOutcome _).serviceEnd _ _

theorem dropExchange (h : Tested b s t) : Tested b s (t.modBay b Bay.dropExchange) :=
  h.modBay _ rfl ⟨rfl, rfl⟩ ⟨rfl, rfl⟩ (.of_ctx (.inl rfl) rfl (.inr rfl)) rfl

/-- The link-up that a SETUP entry serves ends with it (R8, R16). -/
theorem endLink {e : BusEntry} (he : t.busEntry b .setup = some e) :
    Tested b t (((t.dequeue b .setup).noteOutcome b .noReply).modBay b (fun v => v.endLink.dropExchange)) := by
  refine of_figured ?_ ?_ (fun _ _ n => by rw [he] at n; cases n) (by simp [State.noteOutcome, State.dequeue]) ?_
    (fun _ => .of_eq (by simp [State.noteOutcome, State.dequeue]))
  · exact (((Figured.refl b t).dequeue .setup).modBay (fun v => { v with lastOutcome := some .noReply }) rfl ⟨rfl, rfl⟩
      (.inl rfl)).modBay _ rfl ⟨rfl, rfl⟩ (.inr rfl)
  · have hrests (v : Bay) : v.rests (Bay.endLink { v with lastOutcome := some .noReply }).dropExchange :=
      .of_ctx (.inl rfl) rfl (.inr rfl)
    simpa [State.noteOutcome] using hrests (t.bay b)
  · simp [State.noteOutcome, Bay.endLink, Bay.dropExchange]

theorem clearLostSetup (h : Tested b s t) : Tested b s (t.clearLostSetup b) := by
  unfold State.clearLostSetup
  dsimp only
  split
  · exact h
  · next e he =>
    repeat' split
    · exact h
    · exact h.trans (endLink he)
    · exact ((h.dequeue _).noteOutcome _).dropExchange
    · exact (h.dequeue _).noteOutcome _

theorem clearLostWork (h : Tested b s t) : Tested b s (t.clearLostWork b) :=
  h.clearLostMeter.clearLostService.clearLostSetup.modBay _ rfl ⟨rfl, rfl⟩ ⟨rfl, rfl⟩ (.of_ctx (.inr rfl) rfl (.inl rfl)) rfl

theorem beginRecheck (h : Tested b s t) (hw : (t.bay b).waitRechallenge = true) (hg : (t.bay b).auth = .genuine)
    (x : Option LinkStep) :
    Tested b s ((t.modBay b (fun v => { v with waitRechallenge := false })).beginExchange b .recheck x) := by
  have k : Tested b t ((t.modBay b (fun v => { v with waitRechallenge := false })).beginExchange b .recheck x) := by
    refine of_figured (.mk ?_ (fun i => i.of_busEntry ?_) (fun _ => ?_) ?_) ⟨fun n => ?_, fun n => ?_⟩
      (fun n => absurd hg n) ?_ ?_ (fun _ => .of_eq ?_)
    · simp [State.beginExchange, Bay.holdsSame]
    · rw [State.beginExchange, State.busEntry_enqueue_ne (by decide)]
      simp
    · simp [State.beginExchange]
    · simp [State.beginExchange]
    · rw [hw] at n; cases n
    · simp [hw, hg] at n
    · simp [State.beginExchange, State.enqueue]
    · simp [State.beginExchange]
    · simp [State.beginExchange, State.enqueue]
  exact h.trans k

theorem releaseSetup (h : Tested b s t) : Tested b s (t.releaseSetup b) := by
  unfold State.releaseSetup
  dsimp only
  split
  · exact h
  · split
    · next hstep => exact h.enqueueSetup _ _ (.inr hstep)
    · split
      · next hw =>
        simp only [Bool.and_eq_true, Bool.not_eq_true'] at hw
        exact h.beginRecheck hw.1 (State.dropsRecheck_false hw.2) none
      · have w : Tested b s (t.modBay b (fun v => { v with waitRechallenge := false, waitMark := false })) :=
          h.modBay _ rfl ⟨rfl, rfl⟩ ⟨rfl, rfl⟩ (.of_ctx (.inr rfl) rfl (.inl rfl)) rfl
        split
        · next hm =>
          refine w.enqueueSetup _ _ (.inl ?_)
          simp only [Bool.and_eq_true, beq_iff_eq] at hm
          simpa using hm.2
        · exact w

theorem returnToLost (h : Tested b s t) : Tested b s (t.returnToLost b) :=
  (h.minor (fun v => v.toLost (t.now + Config.relinkUs))).clearLostWork.releaseSetup

end Tested

/-! ## The policy test (R17) -/

/-- An operation on bay `b` is `Tested`. -/
def Testing (b : BayId) (f : State → BayId → State) : Prop := ∀ {s t : State}, Tested b s t → Tested b s (f t b)

theorem Testing.tellChannel : Testing b State.tellChannel := fun h => h.tellChannel
theorem Testing.quiet : Testing b (fun t _ => t) := fun h => h

variable {tell pr pt : State → BayId → State}

namespace Tested

theorem refuseBay (l : Testing b tell) (h : Tested b s t) (r : RefusalReason) : Tested b s (t.refuseBay tell b r) :=
  l (Tested.raise (h.minor _) _)

theorem spendBay (h : Tested b s t) : Tested b s (t.spendBay b) := by
  have w : Tested b s (t.modBay b (fun v =>
      { v with state := .spent, refusal := none, relinkAt := none, probeEmptySeen := true })) :=
    h.minor _
  unfold State.spendBay
  dsimp only
  split
  · exact w.raise _
  · exact w

theorem liftRefusal (l : Testing b tell) (k : Testing b pr) (h : Tested b s t) :
    Tested b s (t.liftRefusal tell pr b) := by
  unfold State.liftRefusal
  dsimp only
  refine l (Tested.raise ?_ _)
  have ready : Tested b s (t.modBay b (fun v => { v with state := .ready, refusal := none })) :=
    h.minor _
  have spent : Tested b s (t.modBay b (fun v => { v with state := .spent, refusal := none })) :=
    h.minor _
  repeat' split
  · exact k h.returnToLost
  · exact h.returnToLost
  · exact spent
  · exact h.spendBay
  · exact k ready
  · exact ready

theorem policyTestWith (l : Testing b tell) (k : Testing b pr) (h : Tested b s t) :
    Tested b s (t.policyTestWith tell pr b) := by
  unfold State.policyTestWith
  extract_lets v
  repeat' split
  all_goals
    first
    | exact h
    | exact h.refuseBay l _
    | exact h.liftRefusal l k
    | exact l (Tested.raise (h.minor _) _)

/-! ## Scoring (R119, R120, R128) -/

/-- A MARK is asked for on a GENUINE bay. -/
theorem askMark (h : Tested b s t) (hg : (t.bay b).auth = .genuine) : Tested b s (t.askMark b) := by
  unfold State.askMark
  split
  · exact h.enqueueSetup _ _ (.inl hg)
  · exact h.minor _

end Tested

theorem State.mayMark_genuine (h : s.mayMark b = true) : (s.bay b).auth = .genuine ∧ (s.bay b).step = none := by
  unfold State.mayMark at h
  split at h
  · simp only [Bool.and_eq_true, beq_iff_eq, Option.isNone_iff_eq_none] at h
    exact ⟨h.1.1.2, h.1.2⟩
  · cases h

/-- What follows a rise of the verdict to `new` (R128). -/
def State.afterRise (tell pt : State → BayId → State) (s : State) (b : BayId) (new : Verdict) : State :=
  let s3 := tell (pt s b) b
  if new = .refilled ∧ s3.mayMark b then s3.askMark b else s3

theorem State.evaluateWith_of_rise {e : Entry} (he : s.pinnedBy b = some e)
    (h : e.data.verdict.rank < (s.scoreVerdict e.data.score).rank) :
    s.evaluateWith tell pt b =
      (s.raiseVerdict b e (s.scoreVerdict e.data.score)).afterRise tell pt b (s.scoreVerdict e.data.score) := by
  unfold State.evaluateWith
  rw [he]
  exact if_pos h

theorem State.evaluateWith_of_stay {e : Entry} (he : s.pinnedBy b = some e)
    (h : ¬ e.data.verdict.rank < (s.scoreVerdict e.data.score).rank) : s.evaluateWith tell pt b = s := by
  unfold State.evaluateWith
  rw [he]
  exact if_neg h

theorem State.evaluateWith_of_none (he : s.pinnedBy b = none) : s.evaluateWith tell pt b = s := by
  unfold State.evaluateWith
  rw [he]

namespace Tested

theorem afterRise (l : Testing b tell) (k : Testing b pt) (h : Tested b s t) (new : Verdict) :
    Tested b s (t.afterRise tell pt b new) := by
  have w : Tested b s (tell (pt t b) b) := l (k h)
  unfold State.afterRise
  dsimp only
  split
  · next hm => exact w.askMark (State.mayMark_genuine hm.2).1
  · exact w

theorem evaluateWith (l : Testing b tell) (k : Testing b pt) (h : Tested b s t) :
    Tested b s (t.evaluateWith tell pt b) := by
  cases he : t.pinnedBy b with
  | none => rw [State.evaluateWith_of_none he]; exact h
  | some e =>
    by_cases hr : e.data.verdict.rank < (t.scoreVerdict e.data.score).rank
    · rw [State.evaluateWith_of_rise he hr]
      exact (h.trans (raiseVerdict he (Nat.le_of_lt hr))).afterRise l k _
    · rw [State.evaluateWith_of_stay he hr]
      exact h

end Tested

/-- The score is written to the pinned entry and the record (R119). -/
def State.writeScore (s : State) (b : BayId) (e : Entry) (kind : EvidenceKind) (score : Nat) : State :=
  (s.writeEntry e.data.serial (Entry.withData (fun d =>
    { d with score := score, probeEmptySeen := d.probeEmptySeen && kind != .probeReturn }))).modBay b
    (fun v => { v with score := score })

/-- The notice of a scoring (R131). -/
def State.scoreNotice (s : State) (b : BayId) (e : Entry) (kind : EvidenceKind) (points steps : Nat) : Notice :=
  .verdict b ⟨some e.data.serial, kind, points, min 255 (e.data.score + points),
    e.data.verdict.raisedTo (s.scoreVerdict (min 255 (e.data.score + points))),
    e.data.verdict.rank < (e.data.verdict.raisedTo (s.scoreVerdict (min 255 (e.data.score + points)))).rank, steps⟩

theorem State.scoreWith_of_pinned {e : Entry} (he : s.pinnedBy b = some e) (kind : EvidenceKind) (p n : Nat) :
    s.scoreWith tell pt b kind p n =
      ((s.writeScore b e kind (min 255 (e.data.score + p))).evaluateWith tell pt b).raise (s.scoreNotice b e kind p n) := by
  unfold State.scoreWith
  rw [he]
  rfl

theorem State.scoreWith_of_none (he : s.pinnedBy b = none) (kind : EvidenceKind) (p n : Nat) :
    s.scoreWith tell pt b kind p n = s := by
  unfold State.scoreWith
  rw [he]

namespace Tested

theorem writeScore (h : Tested b s t) {e : Entry} (he : t.pinnedBy b = some e) (kind : EvidenceKind) (n : Nat) :
    Tested b s (t.writeScore b e kind n) :=
  (h.writeEntry he (f := Entry.withData (fun d =>
    { d with score := n, probeEmptySeen := d.probeEmptySeen && kind != .probeReturn }))
    ⟨fun _ => rfl, fun _ => rfl, fun _ => rfl, fun _ => rfl, fun _ => rfl, fun _ => rfl, fun _ => rfl⟩).minor _

theorem scoreWith (l : Testing b tell) (k : Testing b pt) (h : Tested b s t) (kind : EvidenceKind) (p n : Nat) :
    Tested b s (t.scoreWith tell pt b kind p n) := by
  cases he : t.pinnedBy b with
  | none => rw [State.scoreWith_of_none he]; exact h
  | some e =>
    rw [State.scoreWith_of_pinned he]
    exact ((h.writeScore he _ _).evaluateWith l k).raise _

end Tested

theorem Testing.probeReturnWith (l : Testing b tell) : Testing b (State.probeReturnWith tell) := fun h =>
  Tested.scoreWith l (fun w => w.policyTestWith l Testing.quiet)
    (h.minor _) _ _ _

namespace Tested

theorem probeReturn (h : Tested b s t) : Tested b s (t.probeReturn b) := Testing.probeReturnWith Testing.tellChannel h

theorem policyTest (h : Tested b s t) : Tested b s (t.policyTest b) :=
  h.policyTestWith Testing.tellChannel (Testing.probeReturnWith Testing.tellChannel)

theorem score (h : Tested b s t) (kind : EvidenceKind) (p n : Nat) : Tested b s (t.score b kind p n) :=
  h.scoreWith Testing.tellChannel (fun w => w.policyTest) kind p n

theorem evaluate (h : Tested b s t) : Tested b s (t.evaluate b) :=
  h.evaluateWith Testing.tellChannel (fun w => w.policyTest)

/-! ## Levels, overdraw and write-backs -/

theorem lowTest (h : Tested b s t) : Tested b s (t.lowTest b) := by
  unfold State.lowTest
  dsimp only
  repeat' split
  · exact h
  · exact Tested.raise (h.minor _) _
  · exact h

theorem countedOutTest (h : Tested b s t) : Tested b s (t.countedOutTest b) := by
  unfold State.countedOutTest
  extract_lets v s1
  have w : Tested b s s1 := Tested.raise (h.minor _) _
  repeat' split
  · next he =>
    exact w.writeQuietly he ⟨fun _ => rfl, fun _ => rfl, fun _ => rfl, fun _ => rfl, fun _ => rfl, fun _ => rfl,
      fun _ => rfl⟩
  · exact w
  · exact h

theorem levelTests (h : Tested b s t) : Tested b s (t.levelTests b) := by
  unfold State.levelTests
  split
  · exact h.lowTest.countedOutTest
  · exact h

theorem overdrawExam (h : Tested b s t) : Tested b s (t.overdrawExam b) := by
  unfold State.overdrawExam
  dsimp only
  split
  · exact Tested.score (h.minor _) _ _ _
  · exact h

theorem startWriteBack (h : Tested b s t) : Tested b s (t.startWriteBack b) := by
  unfold State.startWriteBack
  split
  · exact h.minor _
  · exact h

theorem writeBackTrigger (h : Tested b s t) (x : Bool) : Tested b s (t.writeBackTrigger b x) := by
  unfold State.writeBackTrigger
  split
  · next hw =>
    rw [Bool.and_eq_true] at hw
    exact h.enqueueMeter ((State.mayWriteBack_iff b).mp hw.1).2.2.2.2 _ _
  · exact h

theorem settleEvidence (h : Tested b s t) (c e d : Nat) : Tested b s (t.settleEvidence b c e d) := by
  unfold State.settleEvidence
  split
  · exact h.score _ _ _
  · exact h.score _ _ _
  · exact h

end Tested

end Sys2Proof.Machine

/-! An ADVANCE that ends DONE (R62, R63, R85, R87, R88). -/

namespace Sys2Proof.Machine

variable {s t u : State} {b : BayId}

/-! ## Re-challenges keep the figures -/

namespace Figured

theorem minor (h : Figured b s t) (f : Bay → Bay) (hf : Bay.Minor f := by exact {}) : Figured b s (t.modBay b f) :=
  h.modBay f (hf.same _) ⟨hf.inFlight _, hf.owing _⟩ (.inl (hf.step _))

theorem enqueueSetup (h : Figured b s t) (op : BusOp) (x : Option LinkStep) : Figured b s (t.enqueue b .setup op x) :=
  h.trans (of_eq (by simp) (State.busEntry_enqueue_ne (by decide) _ _))

theorem requestRecheck (h : Figured b s t) : Figured b s (t.requestRecheck b) := by
  unfold State.requestRecheck
  dsimp only
  repeat' split
  · exact h
  · exact h
  · exact h.minor _
  · unfold State.askRecheck
    split
    · exact (h.modBay (fun v => { v with ctx := { v.ctx with key := t.derivedKey b, exchange := .recheck, mismatches := 0 } })
        rfl ⟨rfl, rfl⟩ (.inl rfl)).enqueueSetup _ _
    · exact h.modBay _ rfl ⟨rfl, rfl⟩ (.inl rfl)

theorem settleOwed (h : Figured b s t) : Figured b s (t.settleOwed b) := by
  unfold State.settleOwed
  dsimp only
  split
  · exact (h.minor _).requestRecheck
  · exact h

end Figured

/-! ## The figures through the end of an ADVANCE -/

/-- The figures of a bay with no link-up running and no frame of an ADVANCE on the bus, and its WRITEBACKS counter. -/
structure Ledger (b : BayId) (c d i o : Nat) (w : Counter) (s : State) : Prop where
  idle : s.meterIdle b
  step : (s.bay b).step = none
  committed : (s.bay b).committed = c
  doubt : (s.bay b).doubt = d
  inFlight : (s.bay b).inFlight = i
  owing : (s.bay b).owing = o
  counter : (s.bay b).writeBacksCtr = w

namespace Ledger

variable {c d i o : Nat} {w : Counter}

theorem figured (h : Ledger b c d i o w s) (k : Figured b s t) : Ledger b c d i o w t where
  idle := k.idle h.idle
  step := k.step_none h.step
  committed := k.bay.committed.trans h.committed
  doubt := k.bay.doubt.trans h.doubt
  inFlight := (k.flow h.idle).1.trans h.inFlight
  owing := (k.flow h.idle).2.trans h.owing
  counter := k.bay.writeBacksCtr.trans h.counter

theorem tested (h : Ledger b c d i o w s) (k : Tested b s t) : Ledger b c d i o w t := h.figured k.toFigured

theorem countWriteBack (h : Ledger b c d i o w s) : Ledger b c d i o w (s.countWriteBack b) := by
  have hmod : Ledger b c d i o w (s.modBay b (fun v => { v with writeBacks := min 255 (v.writeBacks + 1) })) :=
    ⟨h.idle.of_busEntry (by simp), by simpa using h.step, by simpa using h.committed, by simpa using h.doubt,
      by simpa using h.inFlight, by simpa using h.owing, by simpa using h.counter⟩
  unfold State.countWriteBack
  dsimp only
  repeat' split
  · exact hmod.figured (Figured.refl b _).requestRecheck
  · exact hmod
  · exact hmod

theorem afterAdvance (h : Ledger b c d i o w s) : Ledger b c d i o w (s.afterAdvance b) := by
  have htimer : Ledger b c d i o w (if (s.bay b).state = .lost then s else s.startWriteBack b) := by
    split
    · exact h
    · exact h.tested (Tested.refl b s).startWriteBack
  have hend := (htimer.tested ((Tested.refl b _).writeBackTrigger false)).figured (Figured.refl b _).settleOwed
  unfold State.afterAdvance State.retryBayStep4
  dsimp only
  rw [if_neg]
  · exact hend
  · rw [hend.step]
    exact fun k => by cases k.1

/-- The settling gives the figures of R88 (R87, R89). -/
theorem advanceSettle {delta n : Nat} (h : Ledger b c d i o w s) :
    Ledger b n 0 0 (fit48 (o + settleGrowth n (c + delta) d)) w (s.advanceSettle b delta n) := by
  have hsettled : Ledger b n 0 0 (fit48 (o + settleGrowth n (c + delta) d)) w
      (s.modBay b (fun v => { v with inFlight := 0 }.settle n ((s.bay b).committed + delta) v.doubt)) :=
    ⟨h.idle.of_busEntry (by simp), by simpa [Bay.settle] using h.step, by simp [Bay.settle], by simp [Bay.settle],
      by simp [Bay.settle], by simp [Bay.settle, h.owing, h.committed, h.doubt], by simpa [Bay.settle] using h.counter⟩
  unfold State.advanceSettle
  dsimp only
  generalize s.modBay b _ = s1 at hsettled ⊢
  refine hsettled.tested (Tested.writeBackTrigger (Tested.levelTests ?_) false)
  split
  · exact ((Tested.refl b s1).settleEvidence _ _ _).overdrawExam
  · exact (Tested.refl b s1).settleEvidence _ _ _

theorem advanceOk {v : Drawn} {n : BitVec 40} (h : Ledger b c d i o w s) (tag : Word64) :
    Ledger b n.toNat 0 0 (fit48 (o + settleGrowth n.toNat (c + v.delta) d)) w (s.advanceOk b false v n tag) := by
  have hsettled := h.advanceSettle (delta := v.delta) (n := n.toNat)
  unfold State.advanceOk
  extract_lets good s1 s2 s3
  have h1 : Ledger b n.toNat 0 0 (fit48 (o + settleGrowth n.toNat (c + v.delta) d)) w s1 := hsettled
  have h2 : Ledger b n.toNat 0 0 (fit48 (o + settleGrowth n.toNat (c + v.delta) d)) w s2 := by
    unfold s2
    split
    · exact h1
    · exact h1.tested ((Tested.refl b s1).score _ _ _)
  have h3 : Ledger b n.toNat 0 0 (fit48 (o + settleGrowth n.toNat (c + v.delta) d)) w s3 := by
    unfold s3
    split
    · exact h2.figured (Figured.refl b s2).requestRecheck
    · exact h2
  exact h3.countWriteBack

end Ledger

/-- A bay's WRITEBACKS counter counts an ADVANCE that ends OK (R23, R166). -/
theorem State.bay_bumpWriteBacks (b : BayId) :
    (s.bumpWriteBacks b).bay b = { s.bay b with writeBacksCtr := (s.bay b).writeBacksCtr.after } := by
  simp [State.bumpWriteBacks, Counter.bump_eq_after]

@[simp] theorem State.busEntry_raiseIf (l : Bool) (sc : Scope) (c : BayId) (k : EntryClass) :
    (s.raiseIf l sc).busEntry c k = s.busEntry c k := by
  unfold State.raiseIf
  split
  · simp [State.busEntry]
  · rfl

theorem State.busEntry_bumpWriteBacks (b c : BayId) (k : EntryClass) :
    (s.bumpWriteBacks b).busEntry c k = s.busEntry c k := by
  simp [State.bumpWriteBacks]

/-- The POLL's DONE carries the counter and the tag (R180). -/
theorem advanceData_read (c : BitVec 40) (tag : Word64) :
    BitVec.ofNat 40 (leNat (slice (leBytes 5 c.toNat ++ leBytes 8 tag.toNat) 0 5)) = c ∧
      BitVec.ofNat 64 (leNat (slice (leBytes 5 c.toNat ++ leBytes 8 tag.toNat) 5 8)) = tag := by
  have h5 : (leBytes 5 c.toNat).length = 5 := leBytes_length _ _
  have h8 : (leBytes 8 tag.toNat).length = 8 := leBytes_length _ _
  constructor
  · have : slice (leBytes 5 c.toNat ++ leBytes 8 tag.toNat) 0 5 = leBytes 5 c.toNat := by
      simp [slice, h5]
    rw [this, leNat_leBytes, Nat.mod_eq_of_lt (show c.toNat < 256 ^ 5 from c.isLt)]
    simp
  · have : slice (leBytes 5 c.toNat ++ leBytes 8 tag.toNat) 5 8 = leBytes 8 tag.toNat := by
      simp [slice, h5, h8]
    rw [this, leNat_leBytes, Nat.mod_eq_of_lt (show tag.toNat < 256 ^ 8 from tag.isLt)]
    simp

/-- The growth of R88, by the counter's place. -/
theorem settleGrowth_eq (c e d : Nat) :
    settleGrowth c e d = if e + d ≤ c then 0 else if e ≤ c then d else d + (e - c) := by
  unfold settleGrowth settleCase
  split_ifs <;> first | rfl | omega

/-- No event of the consumption is lost at a settling. -/
theorem consumed_le_settled {c e d o delta com : Nat} (he : e = com + delta) (hfit : o + d + (e - c) < 2 ^ 48) :
    com + d + delta + o ≤ c + fit48 (o + settleGrowth c e d) := by
  have hle : o + settleGrowth c e d ≤ o + d + (e - c) := by
    rw [settleGrowth_eq]
    split_ifs <;> omega
  have hfits : fit48 (o + settleGrowth c e d) = o + settleGrowth c e d := by
    unfold fit48
    rw [if_pos]
    have : Config.max48 = 2 ^ 48 - 1 := rfl
    omega
  rw [hfits, settleGrowth_eq]
  split_ifs <;> omega

/-- The DONE of an ADVANCE's poll: the entry leaves the queue, the counter counts, and the figures settle (R42, R85). -/
theorem State.actOn_advanceDone {e : BusEntry} {w : Drawn} (hcls : e.cls = .meter) (hop : e.op = .advance)
    (hdrawn : e.drawn = some w) (hrel : e.released = false) (n : Nonce) (c : BitVec 40) (tag : Word64) :
    s.actOn e true n (.success (leBytes 5 c.toNat ++ leBytes 8 tag.toNat)) =
      (((s.takenOut e .ok).bumpWriteBacks e.bay).advanceOk e.bay false w c tag).afterAdvance e.bay := by
  obtain ⟨hc, htag⟩ := advanceData_read c tag
  have hdone : s.actOn e true n (.success (leBytes 5 c.toNat ++ leBytes 8 tag.toNat)) =
      s.endTransaction e .ok .ok n (leBytes 5 c.toNat ++ leBytes 8 tag.toNat) := if_neg (by simp [hop])
  have hdraw : e.draw = w := by unfold BusEntry.draw; rw [hdrawn]
  have hreport (z : State) : z.report e .ok n (leBytes 5 c.toNat ++ leBytes 8 tag.toNat) =
      (z.advanceOk e.bay false w c tag).afterAdvance e.bay := by
    unfold State.report
    simp only [hop]
    unfold State.reportAdvance
    simp only [hc, htag, hrel, hdraw]
  rw [hdone]
  unfold State.endTransaction State.takenOut
  simp only [hcls, hop, hreport, and_self, if_true, reduceCtorEq, if_false]

/-- Settles O29: with the METER entry out of its queue no operation that follows the settling can move a figure. -/
theorem advanceDoneSettlesTheFigures : Obligations.AdvanceDoneSettlesTheFigures := by
  intro s b x win e w c tag hx hw hwhat habs hslot hbus heb hcls hop hdrawn hrel hstep hblock
  have hlen : replyLength e.op true .done = some ((leBytes 5 c.toNat ++ leBytes 8 tag.toNat).length + 4) := by
    rw [hop, List.length_append, leBytes_length, leBytes_length]
    rfl
  have hexec := exec_busReplyTaken (kind := 9) (r := .done) hx hw hwhat habs hslot hbus hblock (by decide) rfl hlen
  rw [ReplyKind.attempt, State.actOn_advanceDone hcls hop hdrawn hrel, heb] at hexec
  generalize win + 32 * _ = at' at hexec
  have hstart : Ledger b (s.bay b).committed (s.bay b).doubt (s.bay b).inFlight (s.bay b).owing
      (s.bay b).writeBacksCtr.after (((s.ended b at').takenOut e .ok).bumpWriteBacks b) := by
    have hrecord : (((s.ended b at').takenOut e .ok).bumpWriteBacks b).bay b = { s.bay b with
        lastOutcome := some .ok, writeBacksCtr := (s.bay b).writeBacksCtr.after } := by
      subst heb
      rw [State.bay_bumpWriteBacks, State.bay_takenOut, State.bay_ended]
    refine ⟨.of_none ?_, ?_, ?_, ?_, ?_, ?_, ?_⟩
    · have hnone := (s.ended b at').busEntry_takenOut e .ok
      rw [heb, hcls] at hnone
      rw [State.busEntry_bumpWriteBacks]
      exact hnone
    all_goals rw [hrecord]
    exact hstep
  have hend := (hstart.advanceOk (v := w) (n := c) tag).afterAdvance
  have hin : Within (s.ended b at') (State.conclude
      (((((s.ended b at').takenOut e .ok).bumpWriteBacks b).advanceOk b false w c tag).afterAdvance b)) :=
    ((((((Within.refl _).dequeue _ _).noteOutcome _ _).bumpWriteBacks b).advanceOk b _ _ _ _).afterAdvance b).conclude
  generalize (((((s.ended b at').takenOut e .ok).bumpWriteBacks b).advanceOk b false w c tag).afterAdvance b) = t at *
  refine ⟨_, hexec, ⟨?_, ?_, ?_, ?_, ?_, fun hfit hflow => ?_⟩, ?_, ?_, ?_⟩
  · rw [State.bay_conclude, hend.committed]
  · rw [State.bay_conclude, hend.doubt]
  · rw [State.bay_conclude, hend.inFlight]
  · rw [State.bay_conclude, hend.owing, settleGrowth_eq]
  · rw [State.bay_conclude, hend.counter]
    rfl
  · rw [State.bay_conclude, Bay.consumed, Bay.consumed, hend.committed, hend.doubt, hend.inFlight, hend.owing, hflow]
    have := consumed_le_settled rfl hfit
    omega
  · rw [hin.meters, State.ended_meters]
  · rw [hin.store, State.ended_store]
  · rw [hin.challenge, State.ended_challenge]

end Sys2Proof.Machine

/-! SET PART: its values, and the verdicts of the pinned entries (R120, R121, R161). -/

namespace Sys2Proof.Machine

variable {s t u : State} {b c : BayId}

/-! ## One evaluation (R120) -/

/-- An evaluation leaves the pinned entry's verdict where its score puts it at least, and lowers none. -/
theorem State.evaluate_rank {e x : Entry} (he : s.pinnedBy b = some e) (hx : (s.evaluate b).pinnedBy b = some x) :
    e.data.verdict.rank ≤ x.data.verdict.rank ∧ (s.scoreVerdict e.data.score).rank ≤ x.data.verdict.rank := by
  unfold State.evaluate at hx
  by_cases hr : e.data.verdict.rank < (s.scoreVerdict e.data.score).rank
  · rw [State.evaluateWith_of_rise he hr] at hx
    set new := s.scoreVerdict e.data.score
    have hwritten := State.tracks_writeVerdict he new
    have hrefreshed := (Tested.refl b _).refresh hwritten
    have hafter := (Tested.refl b (s.raiseVerdict b e new)).afterRise Testing.tellChannel
      (fun w => w.policyTest) new
    obtain ⟨-, hkept⟩ := (hrefreshed.trans hafter).verdict hwritten
    have hle := hkept _ x (State.pinnedBy_raised he new) hx
    have hnew : new.rank ≤ x.data.verdict.rank := hle
    exact ⟨by omega, hnew⟩
  · rw [State.evaluateWith_of_stay he hr, he] at hx
    cases hx
    exact ⟨Nat.le_refl _, by omega⟩

/-- The evaluation with its notice is an evaluation and a notice, or nothing. -/
theorem State.evaluateNoticed_cases (b : BayId) :
    (∃ n, s.evaluateNoticed b = (s.evaluate b).raise n) ∨ s.evaluateNoticed b = s ∧ s.evaluate b = s := by
  cases he : s.pinnedBy b with
  | none =>
    right
    refine ⟨?_, State.evaluateWith_of_none he⟩
    unfold State.evaluateNoticed
    rw [he]
  | some e =>
    by_cases hr : e.data.verdict.rank < (s.scoreVerdict e.data.score).rank
    · left
      refine ⟨.verdict b ⟨some e.data.serial, .none, 0, e.data.score, s.scoreVerdict e.data.score, true, 0⟩, ?_⟩
      unfold State.evaluateNoticed
      rw [he]
      exact if_pos hr
    · right
      refine ⟨?_, State.evaluateWith_of_stay he hr⟩
      unfold State.evaluateNoticed
      rw [he]
      exact if_neg hr

theorem Tested.evaluateNoticed (h : Tested b s t) : Tested b s (t.evaluateNoticed b) := by
  rcases t.evaluateNoticed_cases b with ⟨n, hn⟩ | ⟨hn, -⟩
  · rw [hn]
    exact h.evaluate.raise n
  · rw [hn]
    exact h

theorem State.evaluateNoticed_pinnedBy (b c : BayId) : (s.evaluateNoticed b).pinnedBy c = (s.evaluate b).pinnedBy c := by
  rcases s.evaluateNoticed_cases b with ⟨n, hn⟩ | ⟨hn, hn'⟩
  · rw [hn]
    unfold State.pinnedBy
    simp
  · rw [hn, hn']

theorem Within.evaluateNoticed (h : Within s t) (b : BayId) : Within s (t.evaluateNoticed b) := by
  rcases t.evaluateNoticed_cases b with ⟨n, hn⟩ | ⟨hn, -⟩
  · rw [hn]
    exact (h.evaluate b).raise n
  · rw [hn]
    exact h

/-- Another bay's evaluation leaves the entry that `b` pins. -/
theorem State.evaluateNoticed_pinnedBy_ne (hd : s.serialsDistinct) (h : c ≠ b) :
    (s.evaluateNoticed c).pinnedBy b = s.pinnedBy b := by
  obtain ⟨f, hf⟩ := (Tested.refl c s).evaluateNoticed.retold
  rw [hf.pinnedBy]
  cases he : s.pinnedBy b with
  | none => rfl
  | some e =>
    obtain ⟨hmem, hpin⟩ := State.pinnedBy_mem he
    rw [Option.map_some, hf.others hd e hmem]
    rw [hpin]
    exact fun k => h (Option.some.inj k).symm

/-! ## The evaluations of all bays -/

/-- The evaluations of a list of bays. -/
def State.evaluateAll (s : State) (l : List BayId) : State := l.foldl State.evaluateNoticed s

theorem Within.evaluateAll (h : Within s t) (l : List BayId) : Within s (t.evaluateAll l) :=
  Within.foldl _ (fun h b => h.evaluateNoticed b) _ h

theorem State.evaluateAll_link (l : List BayId) (hw : s.link.waiting = none) :
    NoteOnly s.link (s.evaluateAll l).link := by
  induction l generalizing s with
  | nil => exact NoteOnly.refl _
  | cons b l ih =>
    have hnotes := (Tested.refl b s).evaluateNoticed.notes hw
    exact hnotes.trans (ih (by rw [hnotes.eq, hw]))

theorem State.evaluateAll_pinnedBy_ne (l : List BayId) (hd : s.serialsDistinct) (h : b ∉ l) :
    (s.evaluateAll l).pinnedBy b = s.pinnedBy b := by
  induction l generalizing s with
  | nil => rfl
  | cons c l ih =>
    have hstep := State.evaluateNoticed_pinnedBy_ne hd (fun k => h (by simp [k]) : c ≠ b)
    rw [← hstep]
    exact ih (((Within.refl s).evaluateNoticed c).serials hd) (fun k => h (by simp [k]))

/-- What the evaluations of all bays leave of a pinned entry. -/
theorem State.evaluateAll_rank (hd : s.serialsDistinct) {e : Entry} (he : s.pinnedBy b = some e) :
    ∃ x, (s.evaluateAll allBays).pinnedBy b = some x ∧ x.data.serial = e.data.serial ∧
      e.data.verdict.rank ≤ x.data.verdict.rank ∧ (s.scoreVerdict e.data.score).rank ≤ x.data.verdict.rank := by
  obtain ⟨l, m, hsplit⟩ := List.append_of_mem (List.mem_finRange b)
  have hnodup : (l ++ b :: m).Nodup := hsplit ▸ List.nodup_finRange 24
  have hl : b ∉ l := fun k => List.disjoint_of_nodup_append hnodup k (by simp)
  have hm : b ∉ m := (List.nodup_cons.mp hnodup.of_append_right).1
  have hall : s.evaluateAll allBays = ((s.evaluateAll l).evaluateNoticed b).evaluateAll m := by
    unfold State.evaluateAll allBays
    rw [hsplit, List.foldl_append, List.foldl_cons]
  have hw : Within s (s.evaluateAll l) := (Within.refl s).evaluateAll l
  have hbefore : (s.evaluateAll l).pinnedBy b = some e := (State.evaluateAll_pinnedBy_ne l hd hl).trans he
  obtain ⟨f, hf⟩ := (Tested.refl b (s.evaluateAll l)).evaluateNoticed.retold
  have hx : ((s.evaluateAll l).evaluateNoticed b).pinnedBy b = some (f e) := by rw [hf.pinnedBy, hbefore, Option.map_some]
  have hthresholds : (s.evaluateAll l).scoreVerdict e.data.score = s.scoreVerdict e.data.score := by
    unfold State.scoreVerdict
    rw [hw.refillThreshold, hw.doubtThreshold]
  obtain ⟨h1, h2⟩ := State.evaluate_rank hbefore (by rw [← State.evaluateNoticed_pinnedBy]; exact hx)
  refine ⟨f e, ?_, (hf.key e).2.1, h1, hthresholds ▸ h2⟩
  rw [hall, State.evaluateAll_pinnedBy_ne m ((hw.evaluateNoticed b).serials hd) hm, hx]

theorem State.scoreVerdict_refilled {n : Nat} (h : s.refillThreshold ≤ n) : s.scoreVerdict n = .refilled := if_pos h

theorem State.scoreVerdict_ne_clean {n : Nat} (h : s.doubtThreshold ≤ n) : s.scoreVerdict n ≠ .clean := by
  unfold State.scoreVerdict
  split_ifs <;> decide

theorem Verdict.eq_refilled {v : Verdict} (h : Verdict.refilled.rank ≤ v.rank) : v = .refilled := by
  cases v
  · exact absurd h (by decide)
  · exact absurd h (by decide)
  · rfl

theorem Verdict.ne_clean {v w : Verdict} (h : w.rank ≤ v.rank) (hw : w ≠ .clean) : v ≠ .clean := by
  rintro rfl
  cases w
  · exact hw rfl
  · exact absurd h (by decide)
  · exact absurd h (by decide)

/-- The values of a SET PART applied (R161). -/
def State.withPart (s : State) (doubt refill age : Nat) : State :=
  { s with doubtThreshold := doubt, refillThreshold := refill, ageLimit := age * 10 }

/-- Settles O48: each bay's evaluation writes its own pinned entry alone, so the fold over the bays treats each entry
once. -/
theorem setPartAppliesOrRefuses : Obligations.SetPartAppliesOrRefuses := by
  intro s q rest d r a hex hp
  have hintake : s.reserve.link.intake = q :: rest := hex.2.2.1
  have hread : byteAt q.payload 0 = d ∧ byteAt q.payload 1 = r ∧ byteAt q.payload 2 = a := by
    rw [hp]
    exact ⟨rfl, rfl, rfl⟩
  obtain ⟨h0, h1, h2⟩ := hread
  refine ⟨_, exec_request hex, fun hd1 hd2 hdr ha => ?_, fun hbad => ?_⟩
  · have hok : setPartOk d.toNat r.toNat a.toNat = true := by
      have ha' : a.toNat ≠ 0 := fun k => ha (BitVec.eq_of_toNat_eq k)
      simp [setPartOk, hd1, hd2, hdr, ha']
    have hperf : Req.setPart.close (Req.setPart.perform s.reserve q.payload) =
        (((s.reserve.withPart d.toNat r.toNat a.toNat).evaluateAll allBays).finishRequest .ok
          ([d, r] ++ beBytes 2 (a.toNat * 10)) false).transmit := by
      simp only [Req.close, Req.perform, State.setPart, h0, h1, h2, hok, if_true, u8_toNat]
      rfl
    rw [hperf]
    set w := s.reserve.withPart d.toNat r.toNat a.toNat with hw
    have hin : Within w (w.evaluateAll allBays) := (Within.refl w).evaluateAll _
    have hnotes : NoteOnly w.link (w.evaluateAll allBays).link := State.evaluateAll_link _ hex.2.1
    have hranks := fun b e hd => State.evaluateAll_rank (s := w) (b := b) (e := e) hd
    generalize w.evaluateAll allBays = v at *
    obtain ⟨hout, -, hans⟩ := State.finish_from (s := s) (w := v) (q := q) (rest := rest)
      (hnotes.intake.trans hintake) (hnotes.replyFrames.trans rfl) .ok ([d, r] ++ beBytes 2 (a.toNat * 10)) false
    generalize (v.finishRequest .ok ([d, r] ++ beBytes 2 (a.toNat * 10)) false).transmit = t at *
    refine ⟨(congrArg State.doubtThreshold hout :).trans hin.doubtThreshold,
      (congrArg State.refillThreshold hout :).trans hin.refillThreshold,
      (congrArg State.ageLimit hout :).trans hin.ageLimit, hans, fun b e he hd => ?_,
      (congrArg State.store hout :).trans hin.store, (congrArg State.meters hout :).trans hin.meters,
      (congrArg State.challenge hout :).trans hin.challenge⟩
    obtain ⟨x, hx, hserial, hrank, hscore⟩ := hranks b e hd he
    have htable : t.hist.table = v.hist.table := (congrArg (fun z => z.hist.table) hout :)
    refine ⟨x, htable ▸ (State.pinnedBy_mem hx).1, hserial, hrank, fun k => ?_, fun k => ?_⟩
    · rw [State.scoreVerdict_refilled (s := w) k] at hscore
      exact Verdict.eq_refilled hscore
    · exact Verdict.ne_clean hscore (State.scoreVerdict_ne_clean (s := w) k)
  · have hno : setPartOk d.toNat r.toNat a.toNat = false := by
      have hbad' : ¬ (1 ≤ d.toNat ∧ d.toNat ≤ 254 ∧ d.toNat < r.toNat ∧ a.toNat ≠ 0) := by
        rintro ⟨k1, k2, k3, k4⟩
        rcases hbad with rfl | rfl | hbad | rfl
        · simp at k1
        · simp at k2
        · omega
        · simp at k4
      cases hs : setPartOk d.toNat r.toNat a.toNat
      · rfl
      · simp only [setPartOk, Bool.and_eq_true, decide_eq_true_eq, bne_iff_ne] at hs
        exact absurd ⟨hs.1.1.1, hs.1.1.2, hs.1.2, hs.2⟩ hbad'
    have hperf : Req.setPart.close (Req.setPart.perform s.reserve q.payload) =
        (s.reserve.finishRequest .badArgument [] false).transmit := by
      simp only [Req.close, Req.perform, State.setPart, h0, h1, h2, hno]
      rfl
    rw [hperf]
    exact s.finish_onlyAnswered hex _ _ _

end Sys2Proof.Machine

/-! A PROBE_RETURN scored on a bay that is not REFUSED, and the return of ink to a SPENT bay (R21, R119, R125). -/

namespace Sys2Proof.Machine

variable {s t u : State} {b : BayId}

/-! ## The timers of a bay in service -/

/-- The write-back timer runs for its interval from now, and no relink is due (R15, R82). -/
def State.onTime (s : State) (b : BayId) : Prop :=
  ∃ k, s.bayConfig b = some k ∧ (s.bay b).writeBackAt = some (s.now + k.intervalS * 1000000) ∧ (s.bay b).relinkAt = none

theorem State.onTime.of_eq (h : s.onTime b) (hnow : t.now = s.now) (hconf : t.bayConfig b = s.bayConfig b)
    (hw : (t.bay b).writeBackAt = (s.bay b).writeBackAt) (hr : (t.bay b).relinkAt = (s.bay b).relinkAt) : t.onTime b := by
  obtain ⟨k, hk, h1, h2⟩ := h
  exact ⟨k, hconf.trans hk, by rw [hw, h1, hnow], hr.trans h2⟩

theorem State.onTime.modBay (h : s.onTime b) (c : BayId) (f : Bay → Bay) (hw : (f (s.bay c)).writeBackAt = (s.bay c).writeBackAt)
    (hr : (f (s.bay c)).relinkAt = (s.bay c).relinkAt) : (s.modBay c f).onTime b := by
  by_cases hc : b = c
  · subst hc
    exact h.of_eq rfl rfl (by simpa using hw) (by simpa using hr)
  · exact h.of_eq rfl rfl (by rw [s.bay_modBay_ne hc]) (by rw [s.bay_modBay_ne hc])

/-- A start of the timer leaves it where it stands: no time has passed. -/
theorem State.onTime.startWriteBack (h : s.onTime b) (c : BayId) : (s.startWriteBack c).onTime b := by
  cases hk : s.bayConfig c with
  | none =>
    unfold State.startWriteBack
    rw [hk]
    exact h
  | some k =>
    rw [State.startWriteBack_of hk]
    by_cases hc : b = c
    · subst hc
      obtain ⟨k', hk', h1, h2⟩ := h
      rw [hk] at hk'
      cases hk'
      exact ⟨k, hk, by simp, by simpa using h2⟩
    · exact h.of_eq rfl rfl (by rw [s.bay_modBay_ne hc]) (by rw [s.bay_modBay_ne hc])

theorem State.onTime.choose (h : s.onTime b) (c : ChanId) : (s.choose c).onTime b := by
  have hconf : (s.choose c).bayConfig b = s.bayConfig b := ((Within.refl s).choose c).config _
  have hnow : (s.choose c).now = s.now := ((Within.refl s).choose c).now
  rcases s.choose_cases c with e | e | ⟨sd, _, e⟩
  · rw [e]
    exact h
  · exact h.of_eq hnow hconf (by rw [e]; simp [State.enterStarved]) (by rw [e]; simp [State.enterStarved])
  · have hleft : (s.leaveOld c sd).onTime b := by
      unfold State.leaveOld State.leaveActive
      repeat' split
      · exact h.modBay _ _ rfl rfl
      · exact h
      · exact h
    have hentered : ((s.leaveOld c sd).enterActive (sideBay c sd)).onTime b := by
      have hready : ((s.leaveOld c sd).readyToActive (sideBay c sd)).onTime b := by
        unfold State.readyToActive
        split
        · exact hleft.modBay _ _ rfl rfl
        · exact hleft
      unfold State.enterActive
      split
      · exact hready
      · exact hready.startWriteBack _
    have hw : Within s ((s.leaveOld c sd).enterActive (sideBay c sd)) := ((Within.refl s).leaveOld c sd).enterActive _
    refine hentered.of_eq (hnow.trans hw.now.symm) (hconf.trans (hw.config _).symm) ?_ ?_ <;>
      rw [e, State.bay_changeover]

/-! ## What a policy test moves on a bay that is not REFUSED -/

/-- The bay's place alone may differ: its state with the reason and timers, and a MARK that waits. -/
structure Placed (b : BayId) (s t : State) : Prop where
  bay : t.bay b = { s.bay b with
    state := (t.bay b).state, refusal := (t.bay b).refusal, relinkAt := (t.bay b).relinkAt
    writeBackAt := (t.bay b).writeBackAt, waitMark := (t.bay b).waitMark }
  table : t.hist.table = s.hist.table
  timer : s.onTime b → t.onTime b

namespace Placed

theorem refl (b : BayId) (s : State) : Placed b s s := ⟨rfl, rfl, id⟩
theorem trans (h : Placed b s t) (k : Placed b t u) : Placed b s u :=
  ⟨by rw [k.bay, h.bay], k.table.trans h.table, fun w => k.timer (h.timer w)⟩

theorem raise (h : Placed b s t) (n : Notice) : Placed b s (t.raise n) :=
  h.trans ⟨by simp, by simp, fun w => w.of_eq (by simp) (by simp [State.bayConfig]) (by simp) (by simp)⟩
theorem tellChannel (h : Placed b s t) : Placed b s (t.tellChannel b) := by
  have k : Chosen (bayChan b) t (t.tellChannel b) := (Chosen.refl _ _).choose
  exact h.trans ⟨by rw [k.bay b], by rw [k.hist], fun w => w.choose _⟩

theorem refuseBay (h : Placed b s t) (r : RefusalReason) : Placed b s (t.refuseBay State.tellChannel b r) := by
  refine Placed.tellChannel (Placed.raise (h.trans ⟨by simp, by simp, ?_⟩) _)
  rintro ⟨k, hk, h1, -⟩
  exact ⟨k, hk, by simpa using h1, by simp⟩

theorem askMark (h : Placed b s t) : Placed b s (t.askMark b) := by
  unfold State.askMark
  split
  · exact h.trans ⟨by simp, by simp [State.enqueue],
      fun w => w.of_eq (by simp [State.enqueue]) (by simp [State.bayConfig, State.enqueue]) (by simp) (by simp)⟩
  · exact h.trans ⟨by simp, by simp, fun w => w.modBay _ _ rfl rfl⟩

theorem pinnedBy (h : Placed b s t) (c : BayId) : t.pinnedBy c = s.pinnedBy c := by unfold State.pinnedBy; rw [h.table]

theorem score (h : Placed b s t) : (t.bay b).score = (s.bay b).score := by rw [h.bay]
theorem probeEmptySeen (h : Placed b s t) : (t.bay b).probeEmptySeen = (s.bay b).probeEmptySeen := by rw [h.bay]
theorem probe (h : Placed b s t) : (t.bay b).probe = (s.bay b).probe := by rw [h.bay]

end Placed

/-- A state from which a policy test can refuse a bay (R17). -/
def BayState.serviceable (x : BayState) : Prop := x = .ready ∨ x = .active ∨ x = .spent ∨ x = .lost

/-- A choice of the Channel Unit moves a bay between READY and ACTIVE only (R102). -/
def BayState.shifts (x y : BayState) : Prop := y = x ∨ (x = .ready ∨ x = .active) ∧ (y = .ready ∨ y = .active)

namespace BayState.shifts

variable {x y z : BayState}

theorem refl (x : BayState) : x.shifts x := .inl rfl

theorem trans (h : x.shifts y) (k : y.shifts z) : x.shifts z := by
  rcases h with rfl | ⟨h1, h2⟩
  · exact k
  · rcases k with rfl | ⟨_, k2⟩
    · exact .inr ⟨h1, h2⟩
    · exact .inr ⟨h1, k2⟩

theorem refused_iff (h : x.shifts y) : y = .refused ↔ x = .refused := by
  rcases h with rfl | ⟨h1 | h1, h2 | h2⟩
  · exact Iff.rfl
  all_goals simp [h1, h2]

theorem lost (h : x.shifts y) (k : x = .lost) : y = .lost := by
  rcases h with rfl | ⟨h1 | h1, _⟩
  · exact k
  all_goals simp [k] at h1

theorem serving (h : x.shifts y) (k : x = .ready ∨ x = .active) : y = .ready ∨ y = .active := by
  rcases h with rfl | ⟨_, h2⟩
  · exact k
  · exact h2

end BayState.shifts

theorem State.shifts_tellChannel (s : State) (b : BayId) : (s.bay b).state.shifts ((s.tellChannel b).bay b).state :=
  ((Chosen.refl (bayChan b) s).choose).state b

theorem State.state_askMark : ((s.askMark b).bay b).state = (s.bay b).state := by
  unfold State.askMark
  split <;> simp

/-! ## The policy test of a bay that is not REFUSED -/

/-- The refusal that a policy test finds on a bay that is not REFUSED. -/
def State.refusalFound (s : State) (b : BayId) (r : RefusalReason) : Prop :=
  ∃ c, s.bayConfig b = some c ∧ (s.bay b).state.serviceable ∧ (s.bay b).identity.isSome = true ∧
    refusalDue c (s.bay b) = some r

variable {tell pr : State → BayId → State}

theorem State.policyTestWith_of_found {r : RefusalReason} (h : s.refusalFound b r) :
    s.policyTestWith tell pr b = s.refuseBay tell b r := by
  obtain ⟨c, hc, hs, hi, hr⟩ := h
  unfold State.policyTestWith
  rw [hc]
  rcases hs with hs | hs | hs | hs <;> simp [hs, hi, hr]

theorem State.policyTestWith_of_not_found (hne : (s.bay b).state ≠ .refused) (h : ∀ r, ¬ s.refusalFound b r) :
    s.policyTestWith tell pr b = s := by
  unfold State.policyTestWith
  split
  · rfl
  · next c hc =>
    have hno (hs : (s.bay b).state.serviceable) (r : RefusalReason) (hi : (s.bay b).identity.isSome = true) :
        refusalDue c (s.bay b) ≠ some r := fun hr => h r ⟨c, hc, hs, hi, hr⟩
    dsimp only
    split
    case h_5 hs => exact absurd hs hne
    case h_6 => rfl
    all_goals
      next hs =>
      split
      · next hi =>
        split
        · next r hr => exact absurd hr (hno (by simp [hs, BayState.serviceable]) r hi)
        · rfl
      · rfl

/-- A refused bay stays refused when the Channel Unit is told (R17, R101). -/
theorem State.bay_refuseBay (r : RefusalReason) :
    (s.refuseBay State.tellChannel b r).bay b = { s.bay b with state := .refused, refusal := some r, relinkAt := none } := by
  unfold State.refuseBay
  rw [State.bay_tellChannel_out] <;> simp

/-- A bay is moved to REFUSED when `found` holds, and else stays in service as it was. -/
structure Judged (b : BayId) (s t : State) (found : Prop) : Prop where
  placed : Placed b s t
  refused : (t.bay b).state = .refused ↔ found
  shifts : (t.bay b).state ≠ .refused → (s.bay b).state.shifts (t.bay b).state

theorem Judged.policyTestWith (hne : (s.bay b).state ≠ .refused) :
    Judged b s (s.policyTestWith State.tellChannel pr b) (∃ r, s.refusalFound b r) := by
  by_cases h : ∃ r, s.refusalFound b r
  · obtain ⟨r, hr⟩ := h
    rw [State.policyTestWith_of_found hr]
    refine ⟨(Placed.refl b s).refuseBay r, ⟨fun _ => ⟨r, hr⟩, fun _ => by rw [State.bay_refuseBay]⟩, fun k => ?_⟩
    rw [State.bay_refuseBay] at k
    exact absurd rfl k
  · rw [State.policyTestWith_of_not_found hne (fun r hr => h ⟨r, hr⟩)]
    exact ⟨.refl _ _, ⟨fun k => absurd k hne, fun k => absurd k h⟩, fun _ => .refl _⟩

/-- Operations after it that only move the bay between READY and ACTIVE. -/
theorem Judged.then {found : Prop} (h : Judged b s t found) (k : Placed b t u)
    (w : (t.bay b).state.shifts (u.bay b).state) : Judged b s u found :=
  ⟨h.placed.trans k, w.refused_iff.trans h.refused,
    fun n => (h.shifts (fun e => n (w.refused_iff.mpr e))).trans w⟩

/-- What follows a rise on a bay that is not REFUSED (R128). -/
theorem Judged.afterRise (hne : (s.bay b).state ≠ .refused) (new : Verdict) :
    Judged b s (s.afterRise State.tellChannel (State.policyTestWith State.tellChannel pr) b new)
      (∃ r, s.refusalFound b r) := by
  have hpolicy := Judged.policyTestWith (pr := pr) hne
  unfold State.afterRise
  generalize s.policyTestWith State.tellChannel pr b = w at hpolicy ⊢
  have htold := hpolicy.then (Placed.refl b w).tellChannel (w.shifts_tellChannel b)
  dsimp only
  split
  · exact htold.then (Placed.refl b _).askMark (by rw [State.state_askMark]; exact .refl _)
  · exact htold

/-! ## A PROBE_RETURN (R119, R125) -/

/-- The pinned entry after a score is written to it. -/
theorem State.pinnedBy_writeScore {e : Entry} (he : s.pinnedBy b = some e) (kind : EvidenceKind) (n : Nat) :
    ∃ x, (s.writeScore b e kind n).pinnedBy b = some x ∧ x.data = { e.data with
      score := n, probeEmptySeen := e.data.probeEmptySeen && kind != .probeReturn } := by
  refine ⟨(Entry.withData (fun d =>
      { d with score := n, probeEmptySeen := d.probeEmptySeen && kind != .probeReturn }) e).touch s.hist.writeOrder, ?_, rfl⟩
  have hret : Retold b s (s.writeScore b e kind n) _ := .of_pinned he (fun x => (Entry.withData (fun d =>
      { d with score := n, probeEmptySeen := d.probeEmptySeen && kind != .probeReturn }) x).touch s.hist.writeOrder)
    (fun _ => ⟨rfl, rfl, rfl, rfl⟩) (by simp [State.writeScore, State.writeEntry])
  rw [hret.pinnedBy, he, Option.map_some, if_pos rfl]

theorem State.bay_writeScore (e : Entry) (kind : EvidenceKind) (n : Nat) :
    (s.writeScore b e kind n).bay b = { s.bay b with score := n } := by simp [State.writeScore]

theorem State.bay_raiseVerdict (e : Entry) (new : Verdict) :
    (s.raiseVerdict b e new).bay b = { s.bay b with verdict := new } := by
  simp [State.raiseVerdict, State.bay_refresh]

/-- The pinned entry after a rise: its verdict, and the score and flag of the record if it is refreshed. -/
theorem State.pinnedBy_raiseVerdict {e : Entry} (he : s.pinnedBy b = some e) (new : Verdict) :
    ∃ x, (s.raiseVerdict b e new).pinnedBy b = some x ∧ x.data.serial = e.data.serial ∧ x.data.verdict = new ∧
      (e.data.score = (s.bay b).score → x.data.score = e.data.score) ∧
      (e.data.probeEmptySeen = (s.bay b).probeEmptySeen → x.data.probeEmptySeen = e.data.probeEmptySeen) := by
  have hraised := State.pinnedBy_raised he new
  obtain ⟨f, hf⟩ := Retold.refresh b ((s.writeEntry e.data.serial
    (Entry.withData (fun d => { d with verdict := new }))).modBay b (fun v => { v with verdict := new }))
  have hx := hf.pinnedBy b
  rw [hraised, Option.map_some] at hx
  refine ⟨_, hx, (hf.key _).2.1, ?_⟩
  rcases State.pinnedBy_of_refresh hx with hx' | ⟨y, i, hy, -, hdata⟩
  · rw [hraised] at hx'
    rw [← Option.some.inj hx']
    exact ⟨rfl, fun _ => rfl, fun _ => rfl⟩
  · rw [hraised] at hy
    rw [hdata, ← Option.some.inj hy]
    refine ⟨by simp [refreshData], fun k => ?_, fun k => ?_⟩
    · simp [refreshData, k]
    · simp [refreshData, k]

/-- A rise of the verdict finds a refusal on the record that the rise leaves. -/
def State.refusalAt (s : State) (b : BayId) (v : Verdict) : Prop :=
  ∃ r c, s.bayConfig b = some c ∧ (s.bay b).state.serviceable ∧ (s.bay b).identity.isSome = true ∧
    refusalDue c { s.bay b with verdict := v } = some r

/-- What a PROBE_RETURN leaves of a bay that is not REFUSED and of the entry it pins. -/
structure ReturnScored (b : BayId) (s t : State) (e x : Entry) : Prop where
  pinned : t.pinnedBy b = some x
  serial : x.data.serial = e.data.serial
  score : x.data.score = min 255 (e.data.score + 16)
  flag : x.data.probeEmptySeen = false
  verdict : x.data.verdict = e.data.verdict.raisedTo (s.scoreVerdict (min 255 (e.data.score + 16)))
  record : (t.bay b).score = min 255 (e.data.score + 16) ∧ (t.bay b).probeEmptySeen = false ∧
    (t.bay b).probe = (s.bay b).probe
  refused : (t.bay b).state = .refused ↔ e.data.verdict.rank < x.data.verdict.rank ∧ s.refusalAt b x.data.verdict
  shifts : (t.bay b).state ≠ .refused → (s.bay b).state.shifts (t.bay b).state
  timer : s.onTime b → t.onTime b
  link : (t.bay b).step = (s.bay b).step ∧ (t.bay b).observed = (s.bay b).observed ∧
    (t.bay b).linkLost = (s.bay b).linkLost

/-- The flag is cleared and the score written, before the verdict is evaluated (R125). -/
def State.returnWritten (s : State) (b : BayId) (e : Entry) : State :=
  (s.modBay b (fun v => { v with probeEmptySeen := false })).writeScore b e .probeReturn (min 255 (e.data.score + 16))

theorem State.bay_returnWritten (e : Entry) : (s.returnWritten b e).bay b =
    { s.bay b with probeEmptySeen := false, score := min 255 (e.data.score + 16) } := by
  simp [State.returnWritten, State.bay_writeScore]

theorem State.pinnedBy_returnWritten {e : Entry} (he : s.pinnedBy b = some e) :
    ∃ y, (s.returnWritten b e).pinnedBy b = some y ∧ y.data.serial = e.data.serial ∧
      y.data.verdict = e.data.verdict ∧ y.data.score = min 255 (e.data.score + 16) ∧ y.data.probeEmptySeen = false := by
  obtain ⟨y, hy, hdata⟩ := State.pinnedBy_writeScore (s := s.modBay b (fun v => { v with probeEmptySeen := false }))
    (b := b) he .probeReturn (min 255 (e.data.score + 16))
  exact ⟨y, hy, by rw [hdata], by rw [hdata], by rw [hdata], by rw [hdata]; exact Bool.and_false _⟩

theorem State.probeReturn_eq {e : Entry} (he : s.pinnedBy b = some e) : ∃ f, s.probeReturn b =
    ((s.returnWritten b e).evaluateWith State.tellChannel
      (State.policyTestWith State.tellChannel (fun t _ => t)) b).raise (.verdict b f) :=
  ⟨_, State.scoreWith_of_pinned (s := s.modBay b (fun v => { v with probeEmptySeen := false })) he _ _ _⟩

theorem State.told_probeReturn {e : Entry} (he : s.pinnedBy b = some e) : Told (s.probeReturn b).link (.verdict b) := by
  obtain ⟨f, hf⟩ := State.probeReturn_eq he
  rw [hf]
  exact State.told_raise (.verdict b f)

theorem State.onTime.returnWritten (h : s.onTime b) (e : Entry) : (s.returnWritten b e).onTime b :=
  h.of_eq rfl rfl (by rw [State.bay_returnWritten]) (by rw [State.bay_returnWritten])

theorem State.onTime.raiseVerdict (h : s.onTime b) (e : Entry) (new : Verdict) : (s.raiseVerdict b e new).onTime b := by
  refine h.of_eq ?_ ?_ (by rw [State.bay_raiseVerdict]) (by rw [State.bay_raiseVerdict])
  · rw [State.raiseVerdict, State.refresh_parts]
    rfl
  · rw [State.raiseVerdict, State.refresh_parts]
    rfl

theorem ReturnScored.of_pinned {e : Entry} (he : s.pinnedBy b = some e) (hne : (s.bay b).state ≠ .refused) :
    ∃ x, ReturnScored b s (s.probeReturn b) e x := by
  obtain ⟨f, heq⟩ := State.probeReturn_eq he
  obtain ⟨y, hy, hserial, hverdict, hscore, hflag⟩ := State.pinnedBy_returnWritten he
  have hbay := State.bay_returnWritten (s := s) (b := b) e
  have hthreshold : (s.returnWritten b e).scoreVerdict y.data.score =
      s.scoreVerdict (min 255 (e.data.score + 16)) := by rw [hscore]; rfl
  have htime : s.onTime b → (s.returnWritten b e).onTime b := fun h => h.returnWritten e
  have hconf : (s.returnWritten b e).bayConfig b = s.bayConfig b := rfl
  generalize s.returnWritten b e = s2 at *
  rw [heq]
  by_cases hr : y.data.verdict.rank < (s2.scoreVerdict y.data.score).rank
  · rw [State.evaluateWith_of_rise hy hr]
    rw [hthreshold] at hr ⊢
    rw [hverdict] at hr
    set new := s.scoreVerdict (min 255 (e.data.score + 16)) with hnew
    obtain ⟨x, hx, hxserial, hxverdict, hxscore, hxflag⟩ := State.pinnedBy_raiseVerdict hy new
    have hrecord := State.bay_raiseVerdict (s := s2) (b := b) y new
    have htimer : s2.onTime b → (s2.raiseVerdict b y new).onTime b := fun h => h.raiseVerdict y new
    have hconf3 : (s2.raiseVerdict b y new).bayConfig b = s.bayConfig b := by
      rw [← hconf, State.raiseVerdict, State.refresh_parts]
      rfl
    generalize s2.raiseVerdict b y new = s3 at *
    have hstate : (s3.bay b).state = (s.bay b).state := by rw [hrecord, hbay]
    have hjudged := Judged.afterRise (pr := fun t _ => t) (s := s3) (b := b) (by rw [hstate]; exact hne) new
    generalize s3.afterRise State.tellChannel (State.policyTestWith State.tellChannel (fun t _ => t)) b new = t at *
    have hplaced := hjudged.placed
    have hfound : (∃ r, s3.refusalFound b r) ↔ s.refusalAt b new := by
      unfold State.refusalFound State.refusalAt
      rw [hconf3, hrecord, hbay]
      rfl
    have hrose : x.data.verdict = e.data.verdict.raisedTo new := by
      rw [hxverdict, Verdict.raisedTo, if_pos hr]
    refine ⟨x, ?_, hxserial.trans hserial, ?_, ?_, hrose, ⟨?_, ?_, ?_⟩, ?_, fun k => ?_, fun w => ?_, ?_⟩
    · unfold State.pinnedBy
      rw [State.raise_hist]
      exact (hplaced.pinnedBy b).trans hx
    · exact (hxscore (by rw [hscore, hbay])).trans hscore
    · exact (hxflag (by rw [hflag, hbay])).trans hflag
    · rw [State.bay_raise, hplaced.score, hrecord, hbay]
    · rw [State.bay_raise, hplaced.probeEmptySeen, hrecord, hbay]
    · rw [State.bay_raise, hplaced.probe, hrecord, hbay]
    · rw [State.bay_raise, hjudged.refused, hfound, hxverdict]
      exact ⟨fun k => ⟨hr, k⟩, fun k => k.2⟩
    · rw [State.bay_raise] at k ⊢
      exact hstate ▸ hjudged.shifts k
    · exact ((Placed.refl b t).raise _).timer (hplaced.timer (htimer (htime w)))
    · rw [State.bay_raise, hplaced.bay, hrecord, hbay]
      exact ⟨rfl, rfl, rfl⟩
  · rw [State.evaluateWith_of_stay hy hr]
    rw [hthreshold, hverdict] at hr
    have hstay : y.data.verdict = e.data.verdict.raisedTo (s.scoreVerdict (min 255 (e.data.score + 16))) := by
      rw [hverdict, Verdict.raisedTo, if_neg hr]
    refine ⟨y, ?_, hserial, hscore, hflag, hstay, ⟨?_, ?_, ?_⟩, ?_, fun _ => ?_, fun w => ?_, ?_⟩
    · unfold State.pinnedBy
      rw [State.raise_hist]
      exact hy
    · rw [State.bay_raise, hbay]
    · rw [State.bay_raise, hbay]
    · rw [State.bay_raise, hbay]
    · rw [State.bay_raise, hbay, hverdict]
      exact ⟨fun k => absurd k hne, fun k => absurd k.1 (Nat.lt_irrefl _)⟩
    · rw [State.bay_raise, hbay]
      exact .refl _
    · exact ((Placed.refl b s2).raise _).timer (htime w)
    · rw [State.bay_raise, hbay]
      exact ⟨rfl, rfl, rfl⟩

/-! ## Ink returns to a SPENT bay (R21) -/

theorem State.releaseSetup_record (b : BayId) :
    Cleared (s.bay b) ((s.releaseSetup b).bay b) ∧ (s.releaseSetup b).hist = s.hist := by
  unfold State.releaseSetup
  dsimp only
  repeat' split
  · exact ⟨.refl _, rfl⟩
  · exact ⟨by rw [State.bay_enqueue]; exact .refl _, by simp [State.enqueue]⟩
  · exact ⟨by simpa [State.beginExchange] using ⟨rfl, .inl rfl, id⟩, by simp [State.beginExchange, State.enqueue]⟩
  · exact ⟨by simpa using ⟨rfl, .inl rfl, id⟩, by simp [State.enqueue]⟩
  · exact ⟨by simpa using ⟨rfl, .inl rfl, id⟩, by simp⟩

theorem State.clearLostService_record (b : BayId) :
    Cleared (s.bay b) ((s.clearLostService b).bay b) ∧ (s.clearLostService b).hist = s.hist := by
  unfold State.clearLostService
  split
  · exact ⟨.refl _, rfl⟩
  · split
    · exact ⟨.refl _, rfl⟩
    · set w := (s.dequeue b .service).noteOutcome b .noReply with hw
      have hrecord : Cleared (s.bay b) (w.bay b) ∧ w.hist = s.hist :=
        ⟨by simpa [hw, State.noteOutcome] using Cleared.noteOutcome _, by simp [hw, State.noteOutcome, State.dequeue]⟩
      rcases w.serviceEnd_cases b .noReply [] with e | ⟨-, ⟨r, fs, e⟩ | ⟨x, op, e⟩⟩ <;> rw [e]
      · exact hrecord
      · simpa using hrecord
      · exact ⟨by rw [State.bay_enqueue]; exact hrecord.1, by simpa [State.enqueue] using hrecord.2⟩

/-- A bay that goes to LOST keeps what its entry and the policies ask for (R17, R21, R43). -/
theorem State.returnToLost_record (b : BayId) :
    Cleared ((s.bay b).toLost (s.now + Config.relinkUs)) ((s.returnToLost b).bay b) ∧
      (s.returnToLost b).hist = s.hist := by
  set s0 := s.modBay b (fun v => v.toLost (s.now + Config.relinkUs)) with h0
  have hbay : s0.bay b = (s.bay b).toLost (s.now + Config.relinkUs) := by simp [h0]
  obtain ⟨h1, e1, -⟩ := s0.clearLostMeter_spec b
  have e1' : (s0.clearLostMeter b).hist = s0.hist := (congrArg State.hist e1 :)
  obtain ⟨h2, e2⟩ := (s0.clearLostMeter b).clearLostService_record b
  obtain ⟨h3, e3, -⟩ := ((s0.clearLostMeter b).clearLostService b).clearLostSetup_spec b
  have e3' := (congrArg State.hist e3 :)
  obtain ⟨h4, e4⟩ := (s0.clearLostWork b).releaseSetup_record b
  have h : Cleared (s0.bay b) ((s0.clearLostWork b).bay b) := by
    refine ((h1.trans h2).trans h3).trans ?_
    rw [State.clearLostWork, State.bay_modBay]
    exact ⟨rfl, .inl rfl, id⟩
  refine ⟨hbay ▸ h.trans h4, e4.trans ?_⟩
  rw [State.clearLostWork]
  exact e3'.trans (e2.trans e1')

/-- The bay leaves SPENT (R21), before its return is scored. -/
def State.leftSpent (s : State) (b : BayId) : State :=
  if (s.bay b).linkLost then s.returnToLost b else s.modBay b (fun v => { v with state := .ready })

theorem State.leftSpent_record (b : BayId) :
    ((s.leftSpent b).bay b).state = (if (s.bay b).linkLost = true then .lost else .ready) ∧
      ((s.leftSpent b).bay b).identity = (s.bay b).identity ∧ ((s.leftSpent b).bay b).auth = (s.bay b).auth ∧
      ((s.leftSpent b).bay b).probe = (s.bay b).probe ∧ (s.leftSpent b).hist = s.hist := by
  unfold State.leftSpent
  split
  · next h =>
    obtain ⟨hrec, hhist⟩ := s.returnToLost_record b
    rw [hrec.eq]
    exact ⟨rfl, rfl, rfl, rfl, hhist⟩
  · simp

/-- A refusal that the verdict `v` calls for under a channel's policies (R17). -/
theorem refusalDue_isSome {c : Settings} {v : Bay} : (∃ r, refusalDue c v = some r) ↔
    (v.verdict = .refilled ∧ c.refill = .refuse) ∨
      (c.nonGenuine = .refuse ∧ (v.auth = .rejected ∨ v.auth = .unverifiable)) := by
  unfold refusalDue
  split_ifs with h1 h2 h3
  · exact ⟨fun _ => .inr ⟨h1.2, .inl h1.1⟩, fun _ => ⟨_, rfl⟩⟩
  · exact ⟨fun _ => .inr ⟨h2.2, .inr h2.1⟩, fun _ => ⟨_, rfl⟩⟩
  · exact ⟨fun _ => .inl h3, fun _ => ⟨_, rfl⟩⟩
  · constructor
    · rintro ⟨r, hr⟩
      cases hr
    · rintro (h | ⟨h, h' | h'⟩)
      · exact absurd h h3
      · exact absurd ⟨h', h⟩ h1
      · exact absurd ⟨h', h⟩ h2

theorem State.inkReturns_eq (h : (s.bay b).probeEmptySeen = true) :
    s.inkReturns b = (((s.leftSpent b).probeReturn b).tellChannel b).raise (.bay b) := by
  unfold State.inkReturns
  dsimp only
  rw [if_pos h]
  rfl

/-- The record as the filter settles on ink present (R19). -/
def State.inkSeen (s : State) (b : BayId) (due : Nat) : State :=
  ((s.advanceTo due).modBay b (fun v => { v with probeAt := none })).modBay b (fun v => v.filtered .inkPresent)

theorem State.bay_inkSeen (due : Nat) :
    (s.inkSeen b due).bay b = { s.bay b with probeAt := none, probe := .inkPresent, returnAwaited := false } := by
  simp [State.inkSeen, Bay.filtered]

theorem Verdict.rank_raisedTo (v new : Verdict) :
    v.rank ≤ (v.raisedTo new).rank ∧ new.rank ≤ (v.raisedTo new).rank := by
  unfold Verdict.raisedTo
  split <;> omega

/-- The refusal that a rise to `v` calls for on a bay that has left SPENT (R17). -/
theorem State.refusalAt_leftSpent {k : Settings} (hk : s.bayConfig b = some k) (v : Verdict) :
    (s.leftSpent b).refusalAt b v ↔ (s.bay b).identity.isSome = true ∧
      ((v = .refilled ∧ k.refill = .refuse) ∨
        (k.nonGenuine = .refuse ∧ ((s.bay b).auth = .rejected ∨ (s.bay b).auth = .unverifiable))) := by
  obtain ⟨hstate, hident, hauth, -, -⟩ := s.leftSpent_record b
  have hconf : (s.leftSpent b).bayConfig b = some k := by
    rw [← hk]
    unfold State.leftSpent
    split
    · exact ((Within.refl s).returnToLost b).config _
    · rfl
  have hserv : ((s.leftSpent b).bay b).state.serviceable := by
    rw [hstate]
    split <;> simp [BayState.serviceable]
  unfold State.refusalAt
  rw [hconf, hident]
  have hdue := refusalDue_isSome (c := k) (v := { (s.leftSpent b).bay b with verdict := v })
  rw [hauth] at hdue
  constructor
  · rintro ⟨r, c, hc, -, hi, hr⟩
    cases hc
    exact ⟨hi, hdue.mp ⟨r, hr⟩⟩
  · rintro ⟨hi, h⟩
    obtain ⟨r, hr⟩ := hdue.mpr h
    exact ⟨r, k, rfl, hserv, hi, hr⟩

/-- Settles O18: the bay leaves SPENT for READY or LOST, so the policy test of the scoring can only refuse it. -/
theorem inkReturnIsScored : Obligations.InkReturnIsScored := by
  intro s b due k e hdue hk hsignal hne hstate hempty he
  have hraw := State.rawProbe_present hsignal
  have hexec := exec_probeFilterExpiry hdue hk (hraw ▸ hne)
  rw [hraw] at hexec
  have hbay := State.bay_inkSeen (s := s) (b := b) due
  have hchanged : ((s.advanceTo due).modBay b (fun v => { v with probeAt := none })).probeChanged b .inkPresent =
      (s.inkSeen b due).inkReturns b := by simp [State.probeChanged, hstate, State.inkSeen]
  have hparts := State.inkReturns_eq (s := s.inkSeen b due) (b := b) (by rw [hbay]; exact hempty)
  obtain ⟨hleft, -, -, hprobe, hhist⟩ := (s.inkSeen b due).leftSpent_record b
  have href := State.refusalAt_leftSpent (s := s.inkSeen b due) (b := b) hk
  rw [hbay] at hleft hprobe href
  have hpin : ((s.inkSeen b due).leftSpent b).pinnedBy b = some e := by
    rw [← he]
    unfold State.pinnedBy
    rw [hhist]
    rfl
  have hmoved : (((s.inkSeen b due).leftSpent b).bay b).state ≠ .refused := by
    rw [hleft]
    split <;> simp
  have hthreshold : ((s.inkSeen b due).leftSpent b).refillThreshold = s.refillThreshold := by
    unfold State.leftSpent
    split
    · exact ((Within.refl _).returnToLost b).refillThreshold
    · rfl
  obtain ⟨x, hx⟩ := ReturnScored.of_pinned hpin hmoved
  have htold := State.told_probeReturn hpin
  have hin : Within (s.inkSeen b due) ((s.inkSeen b due).inkReturns b) := (Within.refl _).inkReturns b
  have haround := ((Acts.refl (b := b) (s := s.inkSeen b due)).inkReturns).around
  have htold' : Told ((s.inkSeen b due).inkReturns b).link (.bay b) ∧
      Told ((s.inkSeen b due).inkReturns b).link (.verdict b) := by
    rw [hparts]
    exact ⟨State.told_raise (.bay b),
      State.told_raise_other _ (((Chosen.refl (bayChan b) _).choose).told _ htold)⟩
  have hshift := State.shifts_tellChannel (((s.inkSeen b due).leftSpent b).probeReturn b) b
  have hplaced := (Placed.refl b (((s.inkSeen b due).leftSpent b).probeReturn b)).tellChannel.raise (.bay b)
  rw [← hparts] at hplaced
  have hend : ((s.inkSeen b due).inkReturns b).bay b =
      ((((s.inkSeen b due).leftSpent b).probeReturn b).tellChannel b).bay b := by rw [hparts, State.bay_raise]
  rw [← hend] at hshift
  generalize ((s.inkSeen b due).leftSpent b).probeReturn b = u at *
  refine ⟨((s.inkSeen b due).inkReturns b).transmit, by rw [hexec, hchanged], ?_, ?_, ?_, ⟨x, ?_, hx.serial, hx.score,
    hx.flag, ?_, fun hrefill => ?_, ?_⟩, fun hlost => ?_, fun hlost => ?_, State.told_transmit htold'.1 haround.tx,
    State.told_transmit htold'.2 haround.tx, ?_, ?_, ?_, fun y hy => ?_, fun y hy => ?_⟩
  · rw [State.bay_transmit, hplaced.probe, hx.record.2.2, hprobe]
  · rw [State.bay_transmit, hplaced.score, hx.record.1]
  · rw [State.bay_transmit, hplaced.probeEmptySeen, hx.record.2.1]
  · rw [State.transmit_hist, hplaced.table]
    exact (State.pinnedBy_mem hx.pinned).1
  · rw [hx.verdict]
    exact (Verdict.rank_raisedTo _ _).1
  · refine Verdict.eq_refilled ?_
    rw [hx.verdict, State.scoreVerdict_refilled (hthreshold ▸ hrefill)]
    exact (Verdict.rank_raisedTo _ _).2
  · rw [State.bay_transmit, hshift.refused_iff, hx.refused, href]
    exact ⟨fun ⟨h1, h2, h3⟩ => ⟨h2, h1, h3⟩, fun ⟨h1, h2, h3⟩ => ⟨h2, h1, h3⟩⟩
  · rw [State.bay_transmit]
    by_cases hr : (u.bay b).state = .refused
    · exact .inr (hshift.refused_iff.mpr hr)
    · exact .inl (hshift.lost ((hx.shifts hr).lost (by rw [hleft]; simp [hlost])))
  · rw [State.bay_transmit]
    by_cases hr : (u.bay b).state = .refused
    · exact .inr (.inr (hshift.refused_iff.mpr hr))
    · rcases hshift.serving ((hx.shifts hr).serving (.inl (by rw [hleft]; simp [hlost]))) with h | h
      · exact .inl h
      · exact .inr (.inl h)
  · rw [State.transmit_store]; exact hin.store
  · rw [State.transmit_challenge]; exact hin.challenge
  · rw [State.transmit_meters]; exact hin.meters
  · rw [State.bay_transmit]
    refine (haround.elsewhere y hy).trans ?_
    have hyb : y ≠ b := by
      rintro rfl
      exact hy rfl
    simp [State.inkSeen, State.bay_modBay_ne _ hyb]
  · rw [State.chan_transmit]
    exact (haround.chans y hy).trans (by simp [State.inkSeen])

end Sys2Proof.Machine

/-! The end of a SETUP transaction, and what a link-up's later steps keep of its result (R12 to R15, R35, R42, R59). -/

namespace Sys2Proof.Machine

variable {s t u : State} {b : BayId}

/-! ## The DONE of a SETUP transaction -/

/-- A DONE that is taken ends the SETUP transaction: the report, then the release of the entry (R35, R42). -/
theorem State.actOn_setupDone {e : BusEntry} {poll : Bool} {n : Nonce} {d : List Byte} (hcls : e.cls = .setup)
    (hop : e.op ≠ .advance) (hrange : e.op = .ident → (readIdentity d).inRange = true) :
    s.actOn e poll n (.success d) = ((s.takenOut e .ok).report e .ok n d).releaseSetup e.bay := by
  have hdone : s.actOn e poll n (.success d) = s.endTransaction e .ok .ok n d :=
    if_neg fun h => h.2 (hrange h.1)
  rw [hdone]
  unfold State.endTransaction State.takenOut
  simp only [hcls, hop, false_and, if_false, if_true]

theorem Acts.takenOut {e : BusEntry} (h : Acts b s t) (he : e.bay = b) (o : BusOutcome) : Acts b s (t.takenOut e o) := by
  subst he
  exact (h.dequeue _).noteOutcome _

/-- The report of a SETUP transaction is a path of its bay's operations. -/
theorem Acts.reportSetup {e : BusEntry} (h : Acts b s t) (he : e.bay = b)
    (hop : e.op = .ident ∨ e.op = .challenge ∨ e.op = .mark) (o : BusOutcome) (n : Nonce) (d : List Byte) :
    Acts b s (t.report e o n d) := by
  subst he
  unfold State.report
  rcases hop with hop | hop | hop <;> rw [hop]
  · exact h.reportIdent _ _
  · dsimp only
    split
    · exact h.reportLinkChallenge _ _ _
    · exact h.reportRecheck _ _ _
  · exact h.reportMark _ _

/-- The entry of an open exchange has left the queue with its outcome. -/
def State.setupTaken (s : State) (b : BayId) (at' : Nat) (e : BusEntry) (o : BusOutcome) : State :=
  (s.ended b at').takenOut e o

/-- What the end of a SETUP transaction can reach. -/
structure SetupEnd (b : BayId) (s t : State) : Prop where
  store : t.store = s.store
  challenge : t.challenge = s.challenge
  elsewhere : s.baysElsewhere t (bayChan b)
  told : ∀ k, Told s.link k → Told t.link k
  tx : t.link.tx = s.link.tx

theorem SetupEnd.conclude (h : SetupEnd b s t) :
    t.conclude.store = s.store ∧ t.conclude.challenge = s.challenge ∧ s.baysElsewhere t.conclude (bayChan b) :=
  ⟨(State.conclude_store _).trans h.store, (State.conclude_challenge _).trans h.challenge,
    fun x hx => (State.bay_conclude _ _).trans (h.elsewhere x hx)⟩

/-- A reply to the open exchange of a bay's SETUP entry. -/
theorem exec_setupReply {poll : Bool} {x : Exchange} {e : BusEntry} (h : s.openFor b .setup poll x e)
    (hblock : s.challenge.block ≠ .exhausted) (hop : e.op = .ident ∨ e.op = .challenge ∨ e.op = .mark) {kind : Nat}
    {r : ReplyKind} {d : List Byte} (hk : kind < 16) (hr : ReplyKind.ofCode kind = some r)
    (hlen : replyLength e.op poll r = some (d.length + 4))
    {o : BusOutcome} {d' : List Byte}
    (hact : ∀ w : State, w.actOn e poll x.nonce (r.attempt d) = ((w.takenOut e o).report e o x.nonce d').releaseSetup b) :
    ∃ at', exec (.busReplyTaken (baySeg b) (x.reply kind d)) s =
        .next (((s.setupTaken b at' e o).report e o x.nonce d').releaseSetup b).conclude ∧
      SetupEnd b s (((s.setupTaken b at' e o).report e o x.nonce d').releaseSetup b) ∧
      (((s.setupTaken b at' e o).report e o x.nonce d').releaseSetup b).now = (s.setupTaken b at' e o).now := by
  obtain ⟨hx, hwin, hwhat, habs, hslot, hbus, heb, hcls⟩ := h
  obtain ⟨w, hw⟩ := Option.isSome_iff_exists.mp hwin
  have hexec := exec_busReplyTaken hx hw hwhat habs hslot hbus hblock hk hr hlen
  rw [hact] at hexec
  refine ⟨_, hexec, ?_⟩
  set a := s.ended b (w + 32 * (d.length + 4)) with ha
  have hin : Within a (((a.takenOut e o).report e o x.nonce d').releaseSetup b) := by
    rw [← hact]
    exact (Within.refl a).actOn _ _ _ _
  have hacts := ((((Acts.refl (b := b) (s := a)).takenOut heb o).reportSetup heb hop o x.nonce d').releaseSetup).around
  refine ⟨⟨hin.store.trans (by simp [ha]), hin.challenge.trans (by simp [ha]), fun y hy => ?_, fun k hk => ?_, ?_⟩,
    hin.now.trans (by simp [ha, State.setupTaken])⟩
  · exact (hacts.elsewhere y hy).trans (by simp [ha])
  · exact hacts.told k (by simpa [ha] using hk)
  · exact hacts.tx.trans (by simp [ha])

/-! ## The record and the queue as the entry leaves -/

theorem State.bay_setupTaken {e : BusEntry} (he : e.bay = b) (at' : Nat) (o : BusOutcome) :
    (s.setupTaken b at' e o).bay b = { s.bay b with lastOutcome := some o } := by
  subst he
  rw [State.setupTaken, State.bay_takenOut, State.bay_ended]

theorem State.busEntry_setupTaken {e : BusEntry} (he : e.bay = b) (hcls : e.cls = .setup) (at' : Nat) (o : BusOutcome) :
    (s.setupTaken b at' e o).busEntry b .setup = none := by
  have h := (s.ended b at').busEntry_takenOut e o
  rw [he, hcls] at h
  exact h

theorem State.busEntry_setupTaken_ne {e : BusEntry} (he : e.bay = b) (hcls : e.cls = .setup) (at' : Nat) (o : BusOutcome)
    {k : EntryClass} (hk : k ≠ .setup) : (s.setupTaken b at' e o).busEntry b k = s.busEntry b k := by
  subst he
  rw [State.setupTaken, State.takenOut, State.noteOutcome, State.busEntry_modBay, State.busEntry_dequeue_ne (hcls ▸ hk),
    State.busEntry_ended]

@[simp] theorem State.setupTaken_hist (e : BusEntry) (at' : Nat) (o : BusOutcome) :
    (s.setupTaken b at' e o).hist = s.hist := by simp [State.setupTaken]

/-- With its entry queued again, the release does nothing (R35). -/
theorem State.releaseSetup_of_busy {e : BusEntry} (h : s.busEntry b .setup = some e) : s.releaseSetup b = s := by
  unfold State.releaseSetup
  simp [h]

/-- The SETUP entry of a bay for which no IDENT and no re-challenge waits is released to a waiting MARK (R35). -/
theorem State.releaseSetup_of_free (hfree : s.busEntry b .setup = none) (hstep : (s.bay b).step ≠ some .ident)
    (hw : (s.bay b).waitRechallenge = false) :
    (s.releaseSetup b).bay b = { s.bay b with waitMark := false } ∧
      (s.releaseSetup b).busEntry b .setup =
        (if (s.bay b).waitMark = true ∧ (s.bay b).auth = .genuine then some (newBusEntry b .setup .mark none s.now)
         else none) := by
  unfold State.releaseSetup
  simp only [hfree, hstep, hw, Option.isSome_none, Bool.false_and]
  by_cases hm : (s.bay b).waitMark = true ∧ (s.bay b).auth = .genuine
  · rw [if_pos hm, if_neg (by simp), if_neg id, if_neg (by simp), if_pos (by simp [hm.1, hm.2])]
    refine ⟨by simp, ?_⟩
    rw [State.busEntry_enqueue (by simpa using hfree)]
    simp
  · rw [if_neg hm, if_neg (by simp), if_neg id, if_neg (by simp), if_neg (by simpa using hm)]
    exact ⟨by simp, by simpa using hfree⟩

/-! ## What a link-up's last steps keep -/

/-- The authentication of the bay and the count of it are kept, and no challenge exchange begins. -/
structure Bound (b : BayId) (s t : State) : Prop where
  auth : (t.bay b).auth = (s.bay b).auth
  identity : (t.bay b).identity = (s.bay b).identity
  writeBacks : (t.bay b).writeBacks = (s.bay b).writeBacks
  failures : (t.bay b).challengeFailCtr = (s.bay b).challengeFailCtr
  rests : (s.bay b).rests (t.bay b)

namespace Bound

theorem refl (b : BayId) (s : State) : Bound b s s := ⟨rfl, rfl, rfl, rfl, .refl _⟩

theorem trans (h : Bound b s t) (k : Bound b t u) : Bound b s u where
  auth := k.auth.trans h.auth
  identity := k.identity.trans h.identity
  writeBacks := k.writeBacks.trans h.writeBacks
  failures := k.failures.trans h.failures
  rests := h.rests.trans k.rests h.auth

theorem tested (h : Bound b s t) (k : Tested b t u) : Bound b s u :=
  h.trans ⟨k.bay.auth, k.bay.identity, k.bay.writeBacks, k.bay.challengeFailCtr, k.rests⟩

theorem of_bay (h : Bound b s t) (hb : u.bay b = t.bay b) : Bound b s u :=
  h.trans (by refine ⟨?_, ?_, ?_, ?_, ?_⟩ <;> rw [hb]; exact .refl _)

/-- A change of the record that leaves the authentication. -/
theorem record (h : Bound b s t) (f : Bay → Bay)
    (hf : ∀ v, (f v).auth = v.auth ∧ (f v).identity = v.identity ∧ (f v).writeBacks = v.writeBacks ∧
      (f v).challengeFailCtr = v.challengeFailCtr ∧ (f v).waitRechallenge = v.waitRechallenge ∧
      (f v).ctx = v.ctx := by exact fun _ => ⟨rfl, rfl, rfl, rfl, rfl, rfl⟩) :
    Bound b s (t.modBay b f) := by
  obtain ⟨h1, h2, h3, h4, h5, h6⟩ := hf (t.bay b)
  exact h.trans ⟨by simpa using h1, by simpa using h2, by simpa using h3, by simpa using h4,
    by simpa using Bay.rests.of_ctx (.inl h5) (by rw [h6]) (.inl (by rw [h6]))⟩

theorem enqueue (h : Bound b s t) (k : EntryClass) (op : BusOp) (x : Option LinkStep) : Bound b s (t.enqueue b k op x) :=
  h.of_bay (by simp)

theorem enterService (h : Bound b s t) (st : BayState) : Bound b s (t.enterService b st) := by
  unfold State.enterService
  extract_lets s1 s2 s3
  have w1 : Bound b s s1 := (h.record _).tested (Tested.refl b _).startWriteBack
  have w2 : Bound b s s2 := w1.tested (Tested.refl b _).levelTests
  have w3 : Bound b s s3 := by
    unfold s3
    split
    · exact w2.tested (Tested.refl b _).probeReturn
    · exact w2
  exact w3.tested ((Tested.refl b _).writeBackTrigger _)

theorem completeLink (h : Bound b s t) : Bound b s (t.completeLink b) := by
  unfold State.completeLink
  split
  · exact h
  · extract_lets s1 v s2
    have w1 : Bound b s s1 := h.record _
    have w2 : Bound b s s2 := by
      unfold s2
      split
      · exact (w1.record _).tested ((Tested.refl b _).levelTests.writeBackTrigger _)
      · split
        · exact w1.tested ((Tested.refl b _).spendBay.levelTests.writeBackTrigger _)
        · exact w1.enterService _
    exact w2.tested ((Tested.refl b _).tellChannel.raise _)

theorem beginStep5 (h : Bound b s t) : Bound b s (t.beginStep5 b) := by
  unfold State.beginStep5
  extract_lets v clear
  split
  · exact (h.record _).enqueue _ _ _
  · exact h.completeLink

theorem examineMark (h : Bound b s t) (o : Observed) (v : Verdict) : Bound b s (t.examineMark b o v) := by
  unfold State.examineMark
  repeat' split
  · exact h
  · exact h
  · exact h.of_bay rfl
  · exact (h.of_bay (u := t.setMarked _) rfl).tested ((Tested.refl b _).score _ _ _)

theorem reconcile (h : Bound b s t) (o : Observed) : Bound b s (t.reconcile b o) := by
  unfold State.reconcile
  extract_lets v c s1 s2 s3 s4
  have w1 : Bound b s s1 := h.record _
  have w2 : Bound b s s2 := w1.tested ((Tested.refl b _).settleEvidence _ _ _)
  have w4 : Bound b s s4 := (w2.examineMark o v.verdict).record _
  exact (w4.of_bay (State.bay_refresh b b)).beginStep5

end Bound

end Sys2Proof.Machine

/-! The response to a CHALLENGE (R12, R35, R58 to R61, R64, R65, R67). -/

namespace Sys2Proof.Machine

variable {s t u : State} {b : BayId}

/-! ## Step 4 after a decision -/

namespace Recorded

theorem takeEntry (h : Recorded s t) (serial : Word64) (x : BayId) : Recorded s (t.takeEntry serial x) := by
  unfold State.takeEntry
  dsimp only
  split
  · exact h.readyStamp
  · exact h.readyStamp.hist _

theorem pfJoin (h : Recorded s t) (e : Entry) : Recorded s (t.pfJoin e) := by
  unfold State.pfJoin
  split
  · exact h.hist _
  · exact h

end Recorded

/-- The entry just pinned joins the power-fail set (R175). -/
def State.joinPinned (s : State) (b : BayId) : State :=
  match s.pinnedBy b with
  | some e => s.pfJoin e
  | none => s

theorem Recorded.joinPinned (h : Recorded s t) (b : BayId) : Recorded s (t.joinPinned b) := by
  unfold State.joinPinned
  split
  · exact h.pfJoin _
  · exact h

/-- The lookup finds an entry and takes its figures, or creates one (R136). -/
theorem State.lookup_cases {i : Identity} {o : Observed} (h : s.lookup b i o = some u) :
    (∃ e, s.entryOf? i.serial = some e ∧
      u = ((s.takeEntry i.serial b).modBay b (fun v => v.takeFigures e.data)).joinPinned b) ∨
    ∃ w, s.entryOf? i.serial = none ∧ s.createEntry i b (some b) o.counter.toNat 0 = some w ∧
      u = (w.modBay b (fun v =>
        { v with committed := o.counter.toNat, doubt := 0, verdict := .clean, score := 0 })).joinPinned b := by
  unfold State.lookup at h
  split at h
  · next e he =>
    cases h
    exact .inl ⟨e, he, rfl⟩
  · next he =>
    split at h
    · cases h
    · next w hw =>
      cases h
      exact .inr ⟨w, he, hw, rfl⟩

theorem Bound.lookup {i : Identity} {o : Observed} (h : Bound b s t) (k : t.lookup b i o = some u) : Bound b s u := by
  rcases State.lookup_cases k with ⟨e, -, rfl⟩ | ⟨w, -, hw, rfl⟩
  · refine Bound.of_bay (t := (t.takeEntry i.serial b).modBay b (fun v => v.takeFigures e.data)) ?_
      (((Recorded.refl _).joinPinned b).bay b)
    exact Bound.record (h.of_bay (((Recorded.refl t).takeEntry _ _).bay b)) _
  · refine Bound.of_bay (t := w.modBay b (fun v =>
      { v with committed := o.counter.toNat, doubt := 0, verdict := .clean, score := 0 })) ?_
      (((Recorded.refl _).joinPinned b).bay b)
    exact Bound.record (h.of_bay (((Recorded.refl t).createEntry hw).bay b)) _

/-- No other bay pins an entry of the serial (R11). -/
theorem State.duplicateSerial_iff {serial : Word64} : s.duplicateSerial b serial = true ↔ s.pinnedElsewhere b serial := by
  unfold State.duplicateSerial State.pinnedElsewhere
  rw [List.any_eq_true]
  refine exists_congr fun e => and_congr_right fun _ => ?_
  cases hp : e.pin <;> simp

/-- A step 4 that refuses no duplicate and finds no ADVANCE accepted since the IDENT keeps the decision (R13, R59). -/
theorem Bound.tryStep4 (h : Bound b s t) (hdup : ∀ i, (t.bay b).identity = some i → ¬ t.pinnedElsewhere b i.serial)
    (hadv : (t.bay b).advanceSinceIdent = false) : Bound b s (t.tryStep4 b) := by
  unfold State.tryStep4
  dsimp only
  split
  · next i o hi _ =>
    rw [if_neg (fun k => hdup i hi (State.duplicateSerial_iff.mp k))]
    split
    · exact h
    · rw [if_neg (by rw [hadv]; decide)]
      split
      · exact h.reconcile _
      · split
        · exact h
        · next w hw =>
          have hv : Bound b s (w.verdictTaken b (t.bay b).verdict) := by
            unfold State.verdictTaken
            split
            · exact h.lookup hw
            · exact (h.lookup hw).tested (Tested.refl b _).policyTest
          exact (hv.tested (Tested.refl b _).evaluate).reconcile _
  · exact h

/-! ## A decided exchange -/

/-- A new authentication state on the record (R58). -/
def State.withAuth (s : State) (b : BayId) (a : AuthState) : State := s.modBay b (fun v => { v with auth := a })

theorem State.bay_withAuth (a : AuthState) : (s.withAuth b a).bay b = { s.bay b with auth := a } := by
  simp [State.withAuth]

theorem Tested.withdrawMeter (h : Tested b s t) : Tested b s (t.withdrawMeter b) := by
  unfold State.withdrawMeter
  dsimp only
  repeat' split
  · exact h
  · exact h.dequeue _
  · exact (h.dequeue _).startWriteBack
  · exact h

theorem Tested.withdrawMark (h : Tested b s t) : Tested b s (t.withdrawMark b) := by
  unfold State.withdrawMark
  repeat' split
  · exact h.dequeue _
  · exact h
  · exact h

/-- What leaving GENUINE withdraws moves no figure (R64, R66). -/
theorem Tested.setAuth (s : State) (b : BayId) (a : AuthState) : Tested b (s.withAuth b a) (s.setAuth b a) := by
  unfold State.setAuth State.leaveGenuine
  dsimp only
  split
  · exact (((Tested.refl b (s.withAuth b a)).withdrawMeter).withdrawMark).modBay _ rfl ⟨rfl, rfl⟩ ⟨rfl, rfl⟩
      (.of_ctx (.inr rfl) rfl (.inl rfl)) rfl
  · exact Tested.refl b _

/-- Another bay pins the serial after a retelling of the table exactly when one did before. -/
theorem Retold.pinnedElsewhere {f : Entry → Entry} (h : Retold b s t f) (c : BayId) (serial : Word64) :
    t.pinnedElsewhere c serial ↔ s.pinnedElsewhere c serial := by
  unfold State.pinnedElsewhere
  rw [h.table]
  constructor
  · rintro ⟨x, hx, hserial, p, hp, hne⟩
    obtain ⟨y, hy, rfl⟩ := List.mem_map.mp hx
    obtain ⟨kpin, kserial, -⟩ := h.key y
    exact ⟨y, hy, kserial ▸ hserial, p, kpin ▸ hp, hne⟩
  · rintro ⟨y, hy, hserial, p, hp, hne⟩
    obtain ⟨kpin, kserial, -⟩ := h.key y
    exact ⟨f y, List.mem_map.mpr ⟨y, hy, rfl⟩, kserial.trans hserial, p, kpin.trans hp, hne⟩

theorem Bay.holdsSame.advanceSinceIdent {v w : Bay} (h : v.holdsSame w) : w.advanceSinceIdent = v.advanceSinceIdent :=
  (congrArg Bay.advanceSinceIdent h :)

/-- The record as a decision ends the LINKUP exchange (R59, R63). -/
def State.decided (s : State) (b : BayId) (a : AuthState) : State :=
  (s.modBay b (fun v => { v with ctx := { v.ctx with exchange := .none }, writeBacks := 0 })).withAuth b a

theorem State.bay_decided (a : AuthState) : (s.decided b a).bay b =
    { s.bay b with ctx := { (s.bay b).ctx with exchange := .none }, writeBacks := 0, auth := a } := by
  simp [State.decided, State.withAuth]

/-- Step 3 ends with a decision, which the later steps of the link-up keep (R59). -/
theorem Bound.linkAuth_beginStep4 (a : AuthState)
    (hdup : ∀ i, (s.bay b).identity = some i → ¬ s.pinnedElsewhere b i.serial)
    (hadv : (s.bay b).advanceSinceIdent = false) :
    Bound b (s.withAuth b a) (((s.linkAuth b a).beginStep4 b).releaseSetup b) := by
  have hset : Tested b (s.withAuth b a) _ := Tested.setAuth _ b a
  have hpolicy := hset.policyTest
  obtain ⟨f, hf⟩ := hpolicy.retold
  refine Bound.tested ?_ (Tested.refl b _).releaseSetup
  unfold State.linkAuth State.beginStep4
  refine Bound.tryStep4 (((Bound.refl b _).tested hpolicy).record _) (fun i hi => ?_) ?_
  · rw [State.bay_modBay] at hi
    have hi' : (s.bay b).identity = some i := by
      rw [← hi, hpolicy.bay.identity, State.bay_withAuth]
    intro k
    refine hdup i hi' ?_
    exact (hf.pinnedElsewhere b i.serial).mp k
  · rw [State.bay_modBay, hpolicy.bay.advanceSinceIdent, State.bay_withAuth]
    exact hadv

/-- A decided exchange keeps its decision to the end of the command (R59). -/
theorem Bound.endLinkExchange (a : AuthState)
    (hdup : ∀ i, (s.bay b).identity = some i → ¬ s.pinnedElsewhere b i.serial)
    (hadv : (s.bay b).advanceSinceIdent = false) :
    Bound b (s.decided b a) ((s.endLinkExchange b a).releaseSetup b) :=
  Bound.linkAuth_beginStep4 (s := s.modBay b (fun v => { v with ctx := { v.ctx with exchange := .none }, writeBacks := 0 }))
    a (fun i hi => hdup i (by simpa using hi)) (by simpa using hadv)

/-- What a decided exchange leaves of the record. -/
theorem State.endLinkExchange_record (a : AuthState)
    (hdup : ∀ i, (s.bay b).identity = some i → ¬ s.pinnedElsewhere b i.serial)
    (hadv : (s.bay b).advanceSinceIdent = false) (hw : (s.bay b).waitRechallenge = false) :
    (((s.endLinkExchange b a).releaseSetup b).bay b).auth = a ∧
      (((s.endLinkExchange b a).releaseSetup b).bay b).ctx.exchange = .none ∧
      (((s.endLinkExchange b a).releaseSetup b).bay b).writeBacks = 0 ∧
      (((s.endLinkExchange b a).releaseSetup b).bay b).challengeFailCtr = (s.bay b).challengeFailCtr := by
  have h := Bound.endLinkExchange a hdup hadv
  have hrecord := State.bay_decided (s := s) (b := b) a
  refine ⟨?_, (h.rests.exch (.inl ?_)).2 ?_, ?_, ?_⟩
  · rw [h.auth, hrecord]
  · rw [hrecord]; exact hw
  · rw [hrecord]
  · rw [h.writeBacks, hrecord]
  · rw [h.failures, hrecord]

/-! ## The response -/

/-- The response matches the counter of record (R60). -/
def Bay.fits (v : Bay) (n : Nonce) (resp : Word64) (c : BitVec 40) : Prop :=
  ∃ k, v.ctx.key = some k ∧ resp = checkFn k [BitVec.ofNat 32 (n.toNat / 2 ^ 32), BitVec.ofNat 32 n.toNat,
    BitVec.ofNat 32 (c.toNat / 2 ^ 32), BitVec.ofNat 32 c.toNat]

theorem leBytes_read64 (resp : Word64) : BitVec.ofNat 64 (leNat (leBytes 8 resp.toNat)) = resp := by
  rw [leNat_leBytes, Nat.mod_eq_of_lt (show resp.toNat < 256 ^ 8 from resp.isLt)]
  simp

theorem Bay.responseMatches_iff (v : Bay) (n : Nonce) (c : BitVec 40) (resp : Word64) :
    v.responseMatches n c (leBytes 8 resp.toNat) = true ↔ v.fits n resp c := by
  unfold Bay.responseMatches Bay.fits
  rw [leBytes_read64]
  cases v.ctx.key with
  | none => simp
  | some k =>
    simp only [beq_iff_eq, Option.some.injEq, exists_eq_left']
    exact eq_comm

end Sys2Proof.Machine

/-! The response to a CHALLENGE decides the authentication state, is repeated once, or is indeterminate. -/

namespace Sys2Proof.Machine

variable {s t u : State} {b : BayId}

/-! ## A new attempt -/

theorem State.bay_bumpChallengeFail (b : BayId) : (s.bumpChallengeFail b).bay b =
    { s.bay b with challengeFailCtr := (s.bay b).challengeFailCtr.after } := by
  simp [State.bumpChallengeFail, Counter.bump_eq_after]

theorem State.busEntry_bumpChallengeFail (b c : BayId) (k : EntryClass) :
    (s.bumpChallengeFail b).busEntry c k = s.busEntry c k := by simp [State.bumpChallengeFail]

theorem State.now_bumpChallengeFail (b : BayId) : (s.bumpChallengeFail b).now = s.now :=
  ((Within.refl s).bumpChallengeFail b).now

/-- The queue with another SETUP entry, which the release that follows leaves (R35). -/
theorem State.releaseSetup_enqueue (hfree : s.busEntry b .setup = none) (op : BusOp) (x : Option LinkStep) :
    ((s.enqueue b .setup op x).releaseSetup b).bay b = s.bay b ∧
      ((s.enqueue b .setup op x).releaseSetup b).busEntry b .setup = some (newBusEntry b .setup op x s.now) := by
  have h := State.busEntry_enqueue hfree op x
  rw [State.releaseSetup_of_busy h]
  exact ⟨State.bay_enqueue _ _ _ _ _, h⟩

/-- A link-up that goes back to step 2 queues an IDENT (R12, R59). -/
theorem State.backToStep2_record (hfree : s.busEntry b .setup = none) :
    ((s.backToStep2 b).releaseSetup b).bay b = { s.bay b with step := some .ident } ∧
      ((s.backToStep2 b).releaseSetup b).busEntry b .setup =
        some (newBusEntry b .setup .ident (some .ident) s.now) := by
  obtain ⟨h1, h2⟩ := State.releaseSetup_enqueue (s := s.modBay b (fun v => { v with step := some .ident })) (b := b)
    (by simpa using hfree) .ident (some .ident)
  exact ⟨h1.trans (by simp), h2⟩

/-- A first mismatch queues a second CHALLENGE and is counted (R59, R65). -/
theorem State.firstMismatch_record (hfree : s.busEntry b .setup = none) (x : Option LinkStep) :
    (((s.bumpChallengeFail b).secondChallenge b x).releaseSetup b).bay b = { s.bay b with
      challengeFailCtr := (s.bay b).challengeFailCtr.after, ctx := { (s.bay b).ctx with mismatches := 1 } } ∧
      (((s.bumpChallengeFail b).secondChallenge b x).releaseSetup b).busEntry b .setup =
        some (newBusEntry b .setup .challenge x s.now) := by
  obtain ⟨h1, h2⟩ := State.releaseSetup_enqueue
    (s := (s.bumpChallengeFail b).modBay b (fun v => { v with ctx := { v.ctx with mismatches := 1 } })) (b := b)
    (by simpa [State.busEntry_bumpChallengeFail] using hfree) .challenge x
  refine ⟨h1.trans (by simp [State.bay_bumpChallengeFail]), h2.trans ?_⟩
  rw [State.modBay_now, State.now_bumpChallengeFail]

/-! ## A second mismatch of a re-challenge (R65, R67) -/

theorem State.state_setAuth (a : AuthState) : ((s.setAuth b a).bay b).state = (s.bay b).state := by
  unfold State.setAuth State.leaveGenuine State.withdrawMark State.withdrawMeter State.startWriteBack
  dsimp only
  repeat' split
  all_goals simp

/-- The record as a second mismatch ends a re-challenge. -/
def State.rejected (s : State) (b : BayId) : State := ((s.bumpChallengeFail b).modBay b Bay.endRecheck).withAuth b .rejected

theorem State.bay_rejected : (s.rejected b).bay b = { s.bay b with
    challengeFailCtr := (s.bay b).challengeFailCtr.after, writeBacks := 0
    ctx := { (s.bay b).ctx with exchange := .none }, auth := .rejected } := by
  simp [State.rejected, State.withAuth, State.bay_bumpChallengeFail, Bay.endRecheck, Bay.dropExchange]

theorem State.busEntry_rejected (k : EntryClass) : (s.rejected b).busEntry b k = s.busEntry b k := by
  simp [State.rejected, State.withAuth, State.busEntry_bumpChallengeFail]

/-- What follows a rejection: the notice, the policy test and the Channel Unit's choice (R65, R67). -/
def State.rejectedTold (s : State) (b : BayId) : State :=
  (((((s.bumpChallengeFail b).modBay b Bay.endRecheck).setAuth b .rejected).raise (.bay b)).policyTest b).tellChannel b

theorem State.recheckMismatch_of_second (h : (s.bay b).ctx.mismatches ≠ 0) : s.recheckMismatch b = s.rejectedTold b := by
  unfold State.recheckMismatch
  exact if_neg h

theorem Tested.rejectedTold (s : State) (b : BayId) : Tested b (s.rejected b) (s.rejectedTold b) :=
  (((Tested.setAuth _ b .rejected).raise _).policyTest).tellChannel

theorem State.told_rejectedTold : Told (s.rejectedTold b).link (.bay b) :=
  (((Acts.refl (b := b)).policyTest).tellChannel).around.told _ (State.told_raise (.bay b))

/-- A rejected bay in service is REFUSED where its channel's policy says so (R17, R67). -/
theorem State.rejectedTold_refused {k : Settings} (hk : s.bayConfig b = some k) (hp : k.nonGenuine = .refuse)
    (hi : (s.bay b).identity.isSome = true) (hs : (s.bay b).state.serviceable) :
    ((s.rejectedTold b).bay b).state = .refused ∧ ((s.rejectedTold b).bay b).refusal = some .rejected := by
  set w := (((s.bumpChallengeFail b).modBay b Bay.endRecheck).setAuth b .rejected).raise (.bay b) with hw
  have hset := Tested.setAuth ((s.bumpChallengeFail b).modBay b Bay.endRecheck) b .rejected
  have hfound : w.refusalFound b .rejected := by
    have hrecord := State.bay_rejected (s := s) (b := b)
    refine ⟨k, ?_, ?_, ?_, ?_⟩
    · rw [← hk]
      exact (((((Within.refl s).bumpChallengeFail b).modBay b _).setAuth b _).raise _).config _
    · rw [hw, State.bay_raise, State.state_setAuth, State.bay_modBay, State.bay_bumpChallengeFail]
      exact hs
    · rw [hw, State.bay_raise, hset.bay.identity]
      exact (congrArg Bay.identity hrecord).symm ▸ hi
    · have hauth : (w.bay b).auth = .rejected := by
        rw [hw, State.bay_raise, hset.bay.auth]
        exact congrArg Bay.auth hrecord
      unfold refusalDue
      rw [if_pos ⟨hauth, hp⟩]
  have hpolicy : w.policyTest b = w.refuseBay State.tellChannel b .rejected := State.policyTestWith_of_found hfound
  have hbay := State.bay_refuseBay (s := w) (b := b) .rejected
  have hend : (s.rejectedTold b).bay b = { w.bay b with state := .refused, refusal := some .rejected, relinkAt := none } := by
    rw [State.rejectedTold, ← hw, hpolicy, State.bay_tellChannel_out, hbay]
    all_goals simp [hbay]
  rw [hend]
  exact ⟨rfl, rfl⟩

/-- The end of a rejected re-challenge: no MARK waits on, and no SETUP entry stands (R35, R66). -/
theorem State.rejectedTold_record (hfree : s.busEntry b .setup = none) (hstep : (s.bay b).step = none)
    (hw : (s.bay b).waitRechallenge = false) :
    ((s.rejectedTold b).releaseSetup b).bay b = { (s.rejectedTold b).bay b with waitMark := false } ∧
      ((s.rejectedTold b).releaseSetup b).busEntry b .setup = none ∧ ((s.rejectedTold b).bay b).auth = .rejected ∧
      ((s.rejectedTold b).bay b).ctx.exchange = .none ∧ ((s.rejectedTold b).bay b).writeBacks = 0 ∧
      ((s.rejectedTold b).bay b).challengeFailCtr = (s.bay b).challengeFailCtr.after := by
  have h := Tested.rejectedTold s b
  have hrecord := State.bay_rejected (s := s) (b := b)
  have hw' : ((s.rejected b).bay b).waitRechallenge = false := by rw [hrecord]; exact hw
  have hstep' : ((s.rejected b).bay b).step = none := by rw [hrecord]; exact hstep
  have hauth : ((s.rejectedTold b).bay b).auth = .rejected := by rw [h.bay.auth, hrecord]
  have hsetup : (s.rejectedTold b).busEntry b .setup = none :=
    (h.setup (by rw [hrecord]; simp) (by rw [hstep']; decide) (by rw [State.busEntry_rejected, hfree])).1
  obtain ⟨hbay, hbus⟩ := State.releaseSetup_of_free hsetup (by rw [h.step_none hstep']; decide) (h.rests.waits hw')
  refine ⟨hbay, ?_, hauth, (h.rests.exch (.inl hw')).2 (by rw [hrecord]), by rw [h.bay.writeBacks, hrecord],
    by rw [h.bay.challengeFailCtr, hrecord]⟩
  rw [hbus, if_neg (by simp [hauth])]

/-! ## The reports -/

theorem State.report_challenge {e : BusEntry} (hop : e.op = .challenge) (he : e.bay = b) (o : BusOutcome) (n : Nonce)
    (d : List Byte) : s.report e o n d =
      if e.linkStep.isSome then s.reportLinkChallenge b o n d else s.reportRecheck b o n d := by
  subst he
  unfold State.report
  rw [hop]

theorem State.linkResponse_of_step (h : (s.bay b).step = some .challenge) (n : Nonce) (d : List Byte) :
    s.reportLinkChallenge b .ok n d = s.linkResponse b n d := by
  unfold State.reportLinkChallenge
  rw [if_pos h, if_pos rfl]

/-- The record and queue of an indeterminate or matched re-challenge (R35, R64, R65). -/
theorem State.releaseSetup_recheck (hfree : s.busEntry b .setup = none) (hstep : (s.bay b).step = none)
    (hw : (s.bay b).waitRechallenge = false) (f : Bay → Bay) (hf : (f (s.bay b)).step = (s.bay b).step)
    (hfw : (f (s.bay b)).waitRechallenge = (s.bay b).waitRechallenge) (hfm : (f (s.bay b)).waitMark = (s.bay b).waitMark)
    (hfa : (f (s.bay b)).auth = (s.bay b).auth) :
    ((s.modBay b f).releaseSetup b).bay b = { f (s.bay b) with waitMark := false } ∧
      ((s.modBay b f).releaseSetup b).busEntry b .setup =
        (if (s.bay b).waitMark = true ∧ (s.bay b).auth = .genuine then some (newBusEntry b .setup .mark none s.now)
         else none) := by
  have h := State.releaseSetup_of_free (s := s.modBay b f) (b := b) (by simpa using hfree)
    (by simp [hf, hstep]) (by simp [hfw, hw])
  simpa [hfm, hfa] using h

theorem State.linkResponse_late (h : (s.bay b).advanceSinceIdent = true) (n : Nonce) (d : List Byte) :
    s.linkResponse b n d = s.backToStep2 b := if_pos h

theorem State.linkResponse_match (h : (s.bay b).advanceSinceIdent = false) {o : Observed}
    (ho : (s.bay b).observed = some o) {n : Nonce} {resp : Word64} (hf : (s.bay b).fits n resp o.counter) :
    s.linkResponse b n (leBytes 8 resp.toNat) = s.endLinkExchange b .genuine := by
  have hc : (s.bay b).linkCounter = o.counter := by simp [Bay.linkCounter, ho]
  unfold State.linkResponse
  dsimp only
  rw [if_neg (by simp [h]), hc, if_pos ((Bay.responseMatches_iff _ _ _ _).mpr hf)]

theorem State.linkResponse_mismatch (h : (s.bay b).advanceSinceIdent = false) {o : Observed}
    (ho : (s.bay b).observed = some o) {n : Nonce} {resp : Word64} (hf : ¬ (s.bay b).fits n resp o.counter) :
    s.linkResponse b n (leBytes 8 resp.toNat) =
      if (s.bay b).ctx.mismatches = 0 then (s.bumpChallengeFail b).secondChallenge b (some .challenge)
      else (s.bumpChallengeFail b).endLinkExchange b .rejected := by
  have hc : (s.bay b).linkCounter = o.counter := by simp [Bay.linkCounter, ho]
  unfold State.linkResponse
  dsimp only
  rw [if_neg (by simp [h]), hc, if_neg (fun k => hf ((Bay.responseMatches_iff _ _ _ _).mp k))]

theorem State.reportRecheck_due (h : (s.bay b).ctx.exchange = .recheck)
    (hd : (s.bay b).doubt ≠ 0 ∨ (s.bay b).inFlight ≠ 0) (n : Nonce) (d : List Byte) :
    s.reportRecheck b .ok n d =
      s.modBay b (fun v => { v with ctx := { v.ctx with exchange := .none, owed := true } }) := by
  unfold State.reportRecheck
  dsimp only
  rw [if_pos h, if_pos hd]

theorem State.reportRecheck_match (h : (s.bay b).ctx.exchange = .recheck) (hd : (s.bay b).doubt = 0)
    (hf : (s.bay b).inFlight = 0) {n : Nonce} {resp : Word64} (hfit : (s.bay b).fits n resp (s.bay b).recheckCounter) :
    s.reportRecheck b .ok n (leBytes 8 resp.toNat) = s.modBay b Bay.endRecheck := by
  unfold State.reportRecheck
  dsimp only
  rw [if_pos h, if_neg (by simp [hd, hf]), if_pos ((Bay.responseMatches_iff _ _ _ _).mpr hfit)]

theorem State.reportRecheck_mismatch (h : (s.bay b).ctx.exchange = .recheck) (hd : (s.bay b).doubt = 0)
    (hf : (s.bay b).inFlight = 0) {n : Nonce} {resp : Word64} (hfit : ¬ (s.bay b).fits n resp (s.bay b).recheckCounter) :
    s.reportRecheck b .ok n (leBytes 8 resp.toNat) = s.recheckMismatch b := by
  unfold State.reportRecheck
  dsimp only
  rw [if_pos h, if_neg (by simp [hd, hf]), if_neg (fun k => hfit ((Bay.responseMatches_iff _ _ _ _).mp k))]

theorem State.recheckMismatch_of_first (h : (s.bay b).ctx.mismatches = 0) :
    s.recheckMismatch b = (s.bumpChallengeFail b).secondChallenge b none := by
  unfold State.recheckMismatch
  exact if_pos h

/-- Settles O31: each report ends in a record that the release of the SETUP entry leaves, and a decision stands through
the steps of the link-up that follow it. -/
theorem challengeReplyDecides : Obligations.ChallengeReplyDecides := by
  intro s b x e resp hopen hop hblock hw hdup
  obtain ⟨-, -, -, -, -, -, he, hcls⟩ := id hopen
  obtain ⟨at', hexec, hend, hnow⟩ := exec_setupReply (kind := 9) (r := .done) (o := .ok) (d := leBytes 8 resp.toNat)
    (d' := leBytes 8 resp.toNat) hopen hblock (.inr (.inl hop)) (by decide) rfl
    (by rw [hop, leBytes_length]; rfl)
    (fun w => by
      rw [ReplyKind.attempt, State.actOn_setupDone hcls (by rw [hop]; decide) (by rw [hop]; intro k; cases k), he])
  rw [State.report_challenge hop he] at hexec hend hnow
  obtain ⟨hstore, hchal, helse⟩ := hend.conclude
  have hbay := State.bay_setupTaken (s := s) he at' .ok
  have hfree := State.busEntry_setupTaken (s := s) he hcls at' .ok
  have hhist : (s.setupTaken b at' e .ok).hist = s.hist := State.setupTaken_hist _ _ _
  have hconf : (s.setupTaken b at' e .ok).bayConfig b = s.bayConfig b := by
    rw [State.bayConfig, State.bayConfig, State.chan, State.setupTaken, State.takenOut_chans, State.ended_chans]
    rfl
  have hw' : ((s.setupTaken b at' e .ok).bay b).waitRechallenge = false := by rw [hbay]; exact hw
  have hdup' : ∀ i, ((s.setupTaken b at' e .ok).bay b).identity = some i →
      ¬ (s.setupTaken b at' e .ok).pinnedElsewhere b i.serial := fun i hi => by
    rw [hbay] at hi
    unfold State.pinnedElsewhere
    rw [hhist]
    exact hdup i hi
  generalize s.setupTaken b at' e .ok = a at *
  refine ⟨_, hexec, hstore, hchal, helse, fun hlink hstep hmark => ?_, fun hlink hrecheck hstep => ?_⟩
  · have hstep' : (a.bay b).step = some .challenge := by rw [hbay]; exact hstep
    rw [if_pos hlink, State.linkResponse_of_step hstep'] at hnow ⊢
    rw [State.bay_conclude, State.busEntry_conclude, State.conclude_now, hnow]
    refine ⟨fun hadv => ?_, fun o ho hadv => ?_⟩
    · rw [State.linkResponse_late (by rw [hbay]; exact hadv)]
      obtain ⟨h1, h2⟩ := State.backToStep2_record hfree
      exact ⟨by rw [h1, hbay], h2⟩
    · have hadv' : (a.bay b).advanceSinceIdent = false := by rw [hbay]; exact hadv
      have ho' : (a.bay b).observed = some o := by rw [hbay]; exact ho
      have hfits : (a.bay b).fits x.nonce resp o.counter ↔ (s.bay b).fits x.nonce resp o.counter := by rw [hbay]; rfl
      refine ⟨fun hfit => ?_, fun hfit hm => ?_, fun hfit hm => ?_⟩
      · rw [State.linkResponse_match hadv' ho' (hfits.mpr hfit)]
        obtain ⟨h1, h2, h3, h4⟩ := State.endLinkExchange_record .genuine hdup' hadv' hw'
        exact ⟨h1, h2, h3, by rw [h4, hbay]⟩
      · rw [State.linkResponse_mismatch hadv' ho' (fun k => hfit (hfits.mp k)), if_pos (by rw [hbay]; exact hm)]
        obtain ⟨h1, h2⟩ := State.firstMismatch_record hfree (some .challenge)
        exact ⟨by rw [h1, hbay], h2⟩
      · rw [State.linkResponse_mismatch hadv' ho' (fun k => hfit (hfits.mp k)), if_neg (by rw [hbay]; exact hm)]
        have hbump := State.bay_bumpChallengeFail (s := a) b
        have hhist' : (a.bumpChallengeFail b).hist = a.hist := by
          unfold State.bumpChallengeFail State.raiseIf
          dsimp only
          split <;> simp
        obtain ⟨h1, h2, h3, h4⟩ := State.endLinkExchange_record (s := a.bumpChallengeFail b) .rejected
          (fun i hi => by
            rw [hbump] at hi
            unfold State.pinnedElsewhere
            rw [hhist']
            exact hdup' i hi)
          (by rw [hbump]; exact hadv') (by rw [hbump]; exact hw')
        exact ⟨h1, h2, h3, by rw [h4, hbump, hbay]⟩
  · have hstep' : (a.bay b).step = none := by rw [hbay]; exact hstep
    have hrecheck' : (a.bay b).ctx.exchange = .recheck := by rw [hbay]; exact hrecheck
    have hnot : ¬ e.linkStep.isSome = true := by simp [hlink]
    rw [if_neg hnot] at hnow hend ⊢
    rw [State.bay_conclude, State.busEntry_conclude, State.conclude_now, hnow]
    have hcount : (a.bay b).recheckCounter = BitVec.ofNat 40 (s.bay b).committed := by rw [hbay]; rfl
    have hfits : (a.bay b).fits x.nonce resp (a.bay b).recheckCounter ↔
        (s.bay b).fits x.nonce resp (BitVec.ofNat 40 (s.bay b).committed) := by rw [hcount, hbay]; rfl
    refine ⟨fun hdue => ?_, fun hd hf => ⟨fun hfit => ?_, fun hfit hm => ?_, fun hfit hm => ?_⟩⟩
    · rw [State.reportRecheck_due hrecheck' (by rw [hbay]; exact hdue)]
      obtain ⟨h1, h2⟩ := State.releaseSetup_recheck hfree hstep' hw'
        (fun v => { v with ctx := { v.ctx with exchange := .none, owed := true } }) rfl rfl rfl rfl
      exact ⟨by rw [h1, hbay], by rw [h2, hbay]⟩
    · rw [State.reportRecheck_match hrecheck' (by rw [hbay]; exact hd) (by rw [hbay]; exact hf) (hfits.mpr hfit)]
      obtain ⟨h1, h2⟩ := State.releaseSetup_recheck hfree hstep' hw' Bay.endRecheck rfl rfl rfl rfl
      exact ⟨by rw [h1, hbay]; rfl, by rw [h2, hbay]⟩
    · rw [State.reportRecheck_mismatch hrecheck' (by rw [hbay]; exact hd) (by rw [hbay]; exact hf)
        (fun k => hfit (hfits.mp k)), State.recheckMismatch_of_first (by rw [hbay]; exact hm)]
      obtain ⟨h1, h2⟩ := State.firstMismatch_record hfree none
      exact ⟨by rw [h1, hbay], h2⟩
    · have hsecond : a.reportRecheck b .ok x.nonce (leBytes 8 resp.toNat) = a.rejectedTold b := by
        rw [State.reportRecheck_mismatch hrecheck' (by rw [hbay]; exact hd) (by rw [hbay]; exact hf)
          (fun k => hfit (hfits.mp k)), State.recheckMismatch_of_second (by rw [hbay]; exact hm)]
      rw [hsecond] at hend ⊢
      obtain ⟨h1, h2, h3, h4, h5, h6⟩ := State.rejectedTold_record hfree hstep' hw'
      rw [h1]
      dsimp only
      refine ⟨h3, h4, h5, by rw [h6, hbay], rfl, h2, State.told_conclude ?_ hend.tx, fun k hk hp hi hs => ?_⟩
      · exact ((Acts.refl (b := b)).releaseSetup).around.told _ State.told_rejectedTold
      · exact State.rejectedTold_refused (hconf.trans hk) hp (by rw [hbay]; exact hi) (by rw [hbay]; exact hs)

end Sys2Proof.Machine

/-! The identity that a reply to IDENT carries, and what the exchange of a cartridge keeps of the pins (R10, R140, R180). -/

namespace Sys2Proof.Machine

variable {s t u : State} {b : BayId}

/-! ## The 21 bytes of an IDENT reply -/

theorem leBytes_read {w k : Nat} (v : BitVec w) (h : w ≤ 8 * k) : BitVec.ofNat w (leNat (leBytes k v.toNat)) = v := by
  have hlt : v.toNat < 256 ^ k := by
    calc v.toNat < 2 ^ w := v.isLt
      _ ≤ 2 ^ (8 * k) := Nat.pow_le_pow_right (by decide) h
      _ = 256 ^ k := by rw [Nat.pow_mul]
  rw [leNat_leBytes, Nat.mod_eq_of_lt hlt, BitVec.ofNat_toNat, BitVec.setWidth_eq]

theorem identData_length (i : Identity) (o : Observed) : (identData i o).length = 21 := by simp [identData]

theorem readIdentity_identData (i : Identity) (o : Observed) : readIdentity (identData i o) = i := by
  have hserial : slice (identData i o) 0 8 = leBytes 8 i.serial.toNat := rfl
  have hnominal : slice (identData i o) 10 2 = leBytes 2 i.nominalMl.toNat := rfl
  have hweek : slice (identData i o) 13 2 = leBytes 2 i.week.toNat := rfl
  have hkey : byteAt (identData i o) 9 = u8 i.keyGen.toNat := rfl
  have hgen : BitVec.ofNat 2 (u8 i.keyGen.toNat).toNat = i.keyGen := by
    have := i.keyGen.isLt
    simp only [u8, BitVec.toNat_ofNat]
    rw [Nat.mod_eq_of_lt (by omega)]
    simp
  unfold readIdentity
  rw [hserial, hnominal, hweek, hkey, hgen, leBytes_read _ (by decide), leBytes_read _ (by decide),
    leBytes_read _ (by decide)]
  rfl

theorem readObserved_identData (i : Identity) (o : Observed) : readObserved (identData i o) = o := by
  have hcounter : slice (identData i o) 15 5 = leBytes 5 o.counter.toNat := rfl
  have hmark : byteAt (identData i o) 20 = yesNo o.mark := rfl
  unfold readObserved
  rw [hcounter, hmark, leBytes_read _ (by decide)]
  obtain ⟨c, m⟩ := o
  cases m <;> simp [yesNo]

/-! ## No release pins an entry -/

/-- Each pinned entry of `t` was, under its serial, pinned by that bay in `s`. -/
def State.pinsFrom (s t : State) : Prop :=
  ∀ x ∈ t.hist.table, ∀ p, x.pin = some p → ∃ y ∈ s.hist.table, y.data.serial = x.data.serial ∧ y.pin = some p

namespace State.pinsFrom

theorem refl (s : State) : s.pinsFrom s := fun x hx _ hp => ⟨x, hx, rfl, hp⟩

theorem trans (h : s.pinsFrom t) (k : t.pinsFrom u) : s.pinsFrom u := fun x hx p hp => by
  obtain ⟨y, hy, hserial, hpin⟩ := k x hx p hp
  obtain ⟨z, hz, hserial', hpin'⟩ := h y hy p hpin
  exact ⟨z, hz, hserial'.trans hserial, hpin'⟩

theorem elsewhere (h : s.pinsFrom t) {serial : Word64} (k : t.pinnedElsewhere b serial) : s.pinnedElsewhere b serial := by
  obtain ⟨x, hx, hserial, p, hp, hne⟩ := k
  obtain ⟨y, hy, hsame, hpin⟩ := h x hx p hp
  exact ⟨y, hy, hsame.trans hserial, p, hpin, hne⟩

theorem of_subset (h : ∀ x ∈ t.hist.table, x ∈ s.hist.table) : s.pinsFrom t := fun x hx _ hp => ⟨x, h x hx, rfl, hp⟩

/-- A rewriting of the table, entry by entry, that keeps each serial and sets no pin. -/
theorem of_map (f : Entry → Entry) (hf : ∀ x, (f x).data.serial = x.data.serial ∧ ((f x).pin = x.pin ∨ (f x).pin = none))
    (h : t.hist.table = s.hist.table.map f) : s.pinsFrom t := fun x hx p hp => by
  rw [h] at hx
  obtain ⟨y, hy, rfl⟩ := List.mem_map.mp hx
  obtain ⟨hserial, hpin | hpin⟩ := hf y
  · exact ⟨y, hy, hserial.symm, hpin ▸ hp⟩
  · rw [hpin] at hp
    cases hp

theorem writeEntry (serial : Word64) (f : Entry → Entry)
    (hf : ∀ x, (f x).data.serial = x.data.serial ∧ ((f x).pin = x.pin ∨ (f x).pin = none)) :
    s.pinsFrom (s.writeEntry serial f) := by
  refine of_map (fun x => if x.data.serial == serial then (f x).touch s.hist.writeOrder else x) (fun x => ?_) rfl
  split
  · exact hf x
  · exact ⟨rfl, .inl rfl⟩

theorem refresh (b : BayId) : s.pinsFrom (s.refresh b) :=
  of_map _ (fun x => ⟨(s.refreshed_key b x).1, .inl (s.refreshed_key b x).2.1⟩) (State.refresh_table b)

theorem loseInk (ev : HistoryEvent) (serial : Word64) (i j k : Nat) : s.pinsFrom (s.loseInk ev serial i j k) :=
  of_subset fun x hx => by simpa [State.loseInk, State.raiseHistory] using hx

theorem dropEntry (serial : Word64) : s.pinsFrom (s.dropEntry serial) :=
  of_subset fun x hx => by
    rw [show (s.dropEntry serial).hist.table = s.hist.table.filter (fun e => e.data.serial != serial) by
      unfold State.dropEntry State.flushDone State.pfDone
      split <;> rfl] at hx
    exact List.mem_of_mem_filter hx

theorem evict (e : Entry) : s.pinsFrom (s.evict e) := by
  unfold State.evict
  dsimp only
  split
  · exact dropEntry _
  · exact (dropEntry _).trans (loseInk _ _ _ _ _)

theorem renumber (n : Nat) (l : List Entry) {x : Entry} (hx : x ∈ renumber n l) :
    ∃ y ∈ l, y.data.serial = x.data.serial ∧ y.pin = x.pin := by
  induction l with
  | nil => cases hx
  | cons e es ih =>
    rcases List.mem_cons.mp hx with rfl | hx
    · exact ⟨e, by simp, rfl, rfl⟩
    · obtain ⟨y, hy, h⟩ := ih hx
      exact ⟨y, by simp [hy], h⟩

theorem readyStamp : s.pinsFrom s.readyStamp := by
  unfold State.readyStamp
  split
  · exact refl s
  · intro x hx p hp
    obtain ⟨y, hy, hserial, hpin⟩ := renumber _ _ hx
    exact ⟨y, hy, hserial, hpin.trans hp⟩

/-- An entry created without a pin. -/
theorem pushEntry (mk : Nat → Nat → Entry) (h : ∀ m n, (mk m n).pin = none) : s.pinsFrom (s.pushEntry mk) := fun x hx p hp => by
  rcases List.mem_cons.mp hx with rfl | hx
  · rw [h] at hp
    cases hp
  · exact ⟨x, hx, rfl, hp⟩

theorem createEntry {i : Identity} {c o : Nat} (h : s.createEntry i b none c o = some t) : s.pinsFrom t := by
  unfold State.createEntry at h
  split at h
  · cases h
    exact readyStamp.trans (pushEntry _ fun _ _ => rfl)
  · split at h
    · cases h
      exact ((evict _).trans readyStamp).trans (pushEntry _ fun _ _ => rfl)
    · cases h

theorem carryOrphan (i : Identity) (n : Nat) : s.pinsFrom (s.carryOrphan b i n) := by
  unfold State.carryOrphan
  split
  · exact refl s
  · split
    · split
      · exact loseInk _ _ _ _ _
      · exact writeEntry _ _ fun _ => ⟨rfl, .inl rfl⟩
    · split
      · next h => exact createEntry h
      · exact loseInk _ _ _ _ _

theorem releaseCartridge (b : BayId) : s.pinsFrom (s.releaseCartridge b) := by
  unfold State.releaseCartridge
  split
  · exact refl s
  · split
    · exact (refresh b).trans (writeEntry _ _ fun _ => ⟨rfl, .inr rfl⟩)
    · exact carryOrphan _ _

end State.pinsFrom

end Sys2Proof.Machine

/-! Link-up step 3 after an IDENT: UNVERIFIABLE without a key, else a CHALLENGE (R12, R53, R59). -/

namespace Sys2Proof.Machine

variable {s t u : State} {b : BayId} {i : Identity} {o : Observed}

/-- The reply's identity stands in the record, and no other bay pins its serial (R10, R11). -/
structure Identified (b : BayId) (i : Identity) (o : Observed) (s : State) : Prop where
  identity : (s.bay b).identity = some i
  observed : (s.bay b).observed = some o
  clear : (s.bay b).advanceSinceIdent = false
  free : s.busEntry b .setup = none
  alone : ¬ s.pinnedElsewhere b i.serial
  block : s.challenge.block ≠ .exhausted

/-- The record as step 3 begins (R12). -/
def State.atStep3 (s : State) (b : BayId) : State := s.modBay b (fun v => { v with step := some .challenge })

theorem State.bay_atStep3 : (s.atStep3 b).bay b = { s.bay b with step := some .challenge } := by simp [State.atStep3]

theorem Identified.masterKey (h : Identified b i o s) : (s.atStep3 b).masterKey b = s.store.keys[i.keyGen.toNat] := by
  unfold State.masterKey
  rw [State.bay_atStep3, h.identity]
  rfl

/-! ## Without a key -/

/-- With its key slot empty the bay is UNVERIFIABLE, with no key and no exchange (R53, R59). -/
theorem Identified.keyless (h : Identified b i o s) (hk : s.store.keys[i.keyGen.toNat] = none) :
    (((s.beginStep3 b).releaseSetup b).bay b).identity = some i ∧
      (((s.beginStep3 b).releaseSetup b).bay b).auth = .unverifiable ∧
      (((s.beginStep3 b).releaseSetup b).bay b).ctx.key = none ∧
      (((s.beginStep3 b).releaseSetup b).bay b).ctx.exchange = .none := by
  have hnone : (s.atStep3 b).masterKey b = none := h.masterKey.trans hk
  have hbegin : s.beginStep3 b = (s.atStep3 b).unverifiable b := by
    unfold State.beginStep3
    exact if_pos (.inl (by rw [show s.modBay b _ = s.atStep3 b from rfl, hnone]; rfl))
  rw [hbegin]
  unfold State.unverifiable
  rw [hnone]
  set w := (s.atStep3 b).modBay b (fun v => { v with ctx := { v.ctx with
    exchange := .none, key := if (none : Option Key).isNone = true then none else v.ctx.key } }) with hw
  have hbay : w.bay b = { s.bay b with
      step := some .challenge, ctx := { (s.bay b).ctx with exchange := .none, key := none } } := by
    simp [hw, State.bay_atStep3]
  have hend := Bound.linkAuth_beginStep4 (s := w) (b := b) .unverifiable
    (fun j hj => by
      rw [hbay] at hj
      obtain rfl : i = j := Option.some.inj (h.identity.symm.trans hj)
      exact h.alone)
    (by rw [hbay]; exact h.clear)
  have hauth : (w.withAuth b .unverifiable).bay b = { w.bay b with auth := .unverifiable } := State.bay_withAuth _
  have hexch := hend.rests.exch (.inr (by rw [hauth]; simp))
  refine ⟨hend.identity.trans ?_, hend.auth.trans (by rw [hauth]), hexch.1.trans ?_, hexch.2 ?_⟩
  · rw [hauth, hbay]
    exact h.identity
  all_goals rw [hauth, hbay]

/-! ## With a key -/

/-- While the LINKUP exchange runs, step 3 queues the CHALLENGE alone. -/
theorem Identified.again (h : Identified b i o s) {master : Key} (hk : s.store.keys[i.keyGen.toNat] = some master)
    (hx : (s.bay b).ctx.exchange = .linkup) :
    ((s.beginStep3 b).releaseSetup b).bay b = { s.bay b with step := some .challenge } ∧
      ((s.beginStep3 b).releaseSetup b).busEntry b .setup =
        some (newBusEntry b .setup .challenge (some .challenge) s.now) := by
  have hsome : (s.atStep3 b).masterKey b = some master := h.masterKey.trans hk
  have hbegin : s.beginStep3 b = (s.atStep3 b).enqueue b .setup .challenge (some .challenge) := by
    unfold State.beginStep3
    dsimp only
    rw [if_neg, if_pos (by simpa using hx)]
    · rfl
    · rw [show s.modBay b (fun v => { v with step := some .challenge }) = s.atStep3 b from rfl, hsome]
      simpa [State.atStep3] using h.block
  rw [hbegin]
  obtain ⟨h1, h2⟩ := State.releaseSetup_enqueue (s := s.atStep3 b) (b := b) (by simpa [State.atStep3] using h.free)
    .challenge (some .challenge)
  exact ⟨h1.trans State.bay_atStep3, h2⟩

/-- The bay is CHALLENGING before its exchange begins (R12, R59). -/
def State.challenging (s : State) (b : BayId) : State := (s.atStep3 b).linkAuth b .challenging

/-- A fresh exchange: the key is derived afresh, and the CHALLENGE queued (R59). -/
theorem Identified.fresh (h : Identified b i o s) {master : Key} (hk : s.store.keys[i.keyGen.toNat] = some master)
    (hx : (s.bay b).ctx.exchange ≠ .linkup) :
    s.beginStep3 b = (s.challenging b).beginExchange b .linkup (some .challenge) := by
  have hsome : (s.atStep3 b).masterKey b = some master := h.masterKey.trans hk
  unfold State.beginStep3
  dsimp only
  rw [if_neg, if_neg (by simpa using hx)]
  · rfl
  · rw [show s.modBay b (fun v => { v with step := some .challenge }) = s.atStep3 b from rfl, hsome]
    simpa [State.atStep3] using h.block

theorem Tested.challenging : Tested b ((s.atStep3 b).withAuth b .challenging) (s.challenging b) :=
  (Tested.setAuth _ b .challenging).policyTest

theorem State.bay_withAuth_atStep3 (a : AuthState) :
    ((s.atStep3 b).withAuth b a).bay b = { s.bay b with step := some .challenge, auth := a } := by
  rw [State.bay_withAuth, State.bay_atStep3]

/-- What the policy test leaves of a bay that is CHALLENGING. -/
theorem Identified.challenging (h : Identified b i o s) :
    ((s.challenging b).bay b).identity = some i ∧ ((s.challenging b).bay b).auth = .challenging ∧
      ((s.challenging b).bay b).step = some .challenge ∧ ((s.challenging b).bay b).observed = some o ∧
      (s.challenging b).busEntry b .setup = none := by
  have hT := Tested.challenging (s := s) (b := b)
  have hbay := State.bay_withAuth_atStep3 (s := s) (b := b) .challenging
  obtain ⟨hfree, hstep, hobs⟩ := hT.setup (by rw [hbay]; simp) (by rw [hbay]; simp)
    (by simpa [State.withAuth, State.atStep3] using h.free)
  refine ⟨hT.bay.identity.trans ?_, hT.bay.auth.trans (by rw [hbay]), hstep.trans (by rw [hbay]), hobs.trans ?_, hfree⟩
  · rw [hbay]; exact h.identity
  · rw [hbay]; exact h.observed

theorem State.figures_setAuth (a : AuthState) :
    ((s.setAuth b a).bay b).committed = (s.bay b).committed ∧ ((s.setAuth b a).bay b).doubt = (s.bay b).doubt ∧
      ((s.setAuth b a).bay b).inFlight = (s.bay b).inFlight ∧ ((s.setAuth b a).bay b).owing = (s.bay b).owing := by
  unfold State.setAuth State.leaveGenuine State.withdrawMark State.withdrawMeter State.startWriteBack
  dsimp only
  repeat' split
  all_goals simp

/-- The policy test of a bay that is not REFUSED moves no figure (R17). -/
theorem State.figures_challenging (h : (s.bay b).state ≠ .refused) :
    ((s.challenging b).bay b).committed = (s.bay b).committed ∧ ((s.challenging b).bay b).doubt = (s.bay b).doubt ∧
      ((s.challenging b).bay b).inFlight = (s.bay b).inFlight ∧ ((s.challenging b).bay b).owing = (s.bay b).owing := by
  have hstate : (((s.atStep3 b).setAuth b .challenging).bay b).state = (s.bay b).state := by
    rw [State.state_setAuth, State.bay_atStep3]
  have hplaced : Placed b ((s.atStep3 b).setAuth b .challenging) (s.challenging b) :=
    (Judged.policyTestWith (by rw [hstate]; exact h)).placed
  have hfigures := State.figures_setAuth (s := s.atStep3 b) (b := b) .challenging
  rw [State.bay_atStep3] at hfigures
  rw [hplaced.bay]
  exact hfigures

theorem State.setAuth_of_not_genuine (h : (s.bay b).auth ≠ .genuine) (a : AuthState) : s.setAuth b a = s.withAuth b a := by
  unfold State.setAuth
  exact if_neg fun k => h k.1

/-- In LINKING the policy test does nothing (R17). -/
theorem State.challenging_of_linking (h : (s.bay b).state = .linking) :
    s.challenging b = (s.atStep3 b).setAuth b .challenging := by
  have hstate : (((s.atStep3 b).setAuth b .challenging).bay b).state = .linking := by
    rw [State.state_setAuth, State.bay_atStep3]
    exact h
  exact State.policyTestWith_of_not_found (by rw [hstate]; decide) fun r ⟨_, _, hserv, _⟩ => by
    rw [hstate] at hserv
    simp [BayState.serviceable] at hserv

/-- What a fresh exchange leaves of the record. -/
structure Challenged (b : BayId) (i : Identity) (o : Observed) (master : Key) (s t : State) : Prop where
  identity : (t.bay b).identity = some i
  auth : (t.bay b).auth = .challenging
  step : (t.bay b).step = some .challenge
  observed : (t.bay b).observed = some o
  ctx : (t.bay b).ctx.key = some (cartridgeKey master i.serial) ∧ (t.bay b).ctx.exchange = .linkup ∧
    (t.bay b).ctx.mismatches = 0
  setup : t.busEntry b .setup = some (newBusEntry b .setup .challenge (some .challenge) s.now)
  figures : (s.bay b).state ≠ .refused →
    (t.bay b).committed = (s.bay b).committed ∧ (t.bay b).doubt = (s.bay b).doubt ∧
      (t.bay b).inFlight = (s.bay b).inFlight ∧ (t.bay b).owing = (s.bay b).owing
  linking : (s.bay b).state = .linking → (t.bay b).state = .linking

theorem Identified.challenged (h : Identified b i o s) {master : Key} (hk : s.store.keys[i.keyGen.toNat] = some master)
    (hx : (s.bay b).ctx.exchange ≠ .linkup) : Challenged b i o master s ((s.beginStep3 b).releaseSetup b) := by
  obtain ⟨hident, hauth, hstep, hobs, hfree⟩ := h.challenging
  have hw : Within s (s.challenging b) := (((Within.refl s).modBay b _).setAuth b _).policyTest b
  have hkey : (s.challenging b).derivedKey b = some (cartridgeKey master i.serial) := by
    have hmaster : (s.challenging b).masterKey b = some master := by
      unfold State.masterKey
      rw [hident]
      dsimp only
      rw [hw.store, hk]
    unfold State.derivedKey
    rw [hmaster, hident]
  rw [h.fresh hk hx]
  obtain ⟨h1, h2⟩ := State.releaseSetup_enqueue (b := b) (s := (s.challenging b).modBay b (fun v =>
    { v with ctx := { v.ctx with key := (s.challenging b).derivedKey b, exchange := .linkup, mismatches := 0 } }))
    (by simpa using hfree) .challenge (some .challenge)
  rw [State.bay_modBay, hkey] at h1
  exact {
    identity := by rw [State.beginExchange, hkey, h1]; exact hident
    auth := by rw [State.beginExchange, hkey, h1]; exact hauth
    step := by rw [State.beginExchange, hkey, h1]; exact hstep
    observed := by rw [State.beginExchange, hkey, h1]; exact hobs
    ctx := by rw [State.beginExchange, hkey, h1]; exact ⟨rfl, rfl, rfl⟩
    setup := h2.trans (by rw [State.modBay_now, hw.now])
    figures := fun n => by rw [State.beginExchange, hkey, h1]; exact State.figures_challenging n
    linking := fun n => by
      rw [State.beginExchange, hkey, h1, State.challenging_of_linking n]
      exact (State.state_setAuth _).trans (by rw [State.bay_atStep3]; exact n) }

/-- Step 3 keeps the identity, with a key or without. -/
theorem Identified.identity_kept (h : Identified b i o s) :
    (((s.beginStep3 b).releaseSetup b).bay b).identity = some i := by
  cases hk : s.store.keys[i.keyGen.toNat] with
  | none => exact (h.keyless hk).1
  | some master =>
    by_cases hx : (s.bay b).ctx.exchange = .linkup
    · rw [(h.again hk hx).1]
      exact h.identity
    · exact (h.challenged hk hx).identity

end Sys2Proof.Machine

/-! A taken IDENT reply: the duplicate, the exchange of a cartridge, and step 3 (R10, R11, R12, R90). -/

namespace Sys2Proof.Machine

variable {s t u : State} {b : BayId} {i held : Identity} {o : Observed}

/-! ## The release of the cartridge held (R10, R90, R140) -/

theorem BusEntry.keepsOwner_release : KeepsOwner (fun e => { e with released := true }) := fun _ => ⟨rfl, rfl⟩

theorem State.bay_releaseMeter (x : BayId) : (s.releaseMeter b).bay x = s.bay x := by
  unfold State.releaseMeter
  repeat' split
  all_goals simp

theorem State.hist_releaseMeter : (s.releaseMeter b).hist = s.hist := by
  unfold State.releaseMeter
  repeat' split
  all_goals simp [State.modEntry, State.dequeue]

theorem State.busEntry_releaseMeter_ne {k : EntryClass} (hk : k ≠ .meter) :
    (s.releaseMeter b).busEntry b k = s.busEntry b k := by
  unfold State.releaseMeter
  repeat' split
  · exact State.busEntry_modEntry_ne BusEntry.keepsOwner_release hk
  · exact State.busEntry_dequeue_ne hk
  · rfl

/-- An ADVANCE that was accepted runs on against the released serial; any other is deleted (R90). -/
theorem State.busEntry_releaseMeter {m : BusEntry} (h : s.busEntry b .meter = some m) :
    (s.releaseMeter b).busEntry b .meter = if m.split.isSome = true then some { m with released := true } else none := by
  unfold State.releaseMeter
  rw [h]
  dsimp only
  split
  · rw [State.busEntry_modEntry BusEntry.keepsOwner_release, h]
    rfl
  · exact State.busEntry_dequeue _ _

theorem State.busEntry_releaseCartridge (k : EntryClass) : (s.releaseCartridge b).busEntry b k = s.busEntry b k :=
  ((Recorded.refl s).releaseCartridge b).busEntry b k

/-- The record as the bay takes another cartridge (R10, R90). -/
def Bay.takeCartridge (v : Bay) (i : Identity) : Bay :=
  { v.releaseFigures with identity := some i, state := .linking, refusal := none, relinkAt := none }

/-- The bay holds the new cartridge; the Channel Unit is not yet told. -/
def State.cartridgeTaken (s : State) (b : BayId) (i : Identity) : State :=
  ((s.releaseCartridge b).releaseMeter b).modBay b (fun v => v.takeCartridge i)

theorem State.exchangeCartridge_eq (i : Identity) :
    s.exchangeCartridge b i = ((s.cartridgeTaken b i).raise (.bay b)).tellChannel b := rfl

theorem State.bay_cartridgeTaken (i : Identity) : (s.cartridgeTaken b i).bay b = (s.bay b).takeCartridge i := by
  rw [State.cartridgeTaken, State.bay_modBay, State.bay_releaseMeter, ((Recorded.refl s).releaseCartridge b).bay]

/-- The exchange, after the Channel Unit is told. -/
structure Exchanged (b : BayId) (i : Identity) (s t : State) : Prop where
  bay : t.bay b = (s.bay b).takeCartridge i
  hist : t.hist = (s.releaseCartridge b).hist
  queue : ∀ k, k ≠ .meter → t.busEntry b k = s.busEntry b k
  meter : ∀ m, s.busEntry b .meter = some m →
    t.busEntry b .meter = if m.split.isSome = true then some { m with released := true } else none
  told : Told t.link (.bay b)

theorem Exchanged.of_exchange (s : State) (b : BayId) (i : Identity) : Exchanged b i s (s.exchangeCartridge b i) := by
  have hc : Chosen (bayChan b) ((s.cartridgeTaken b i).raise (.bay b)) (s.exchangeCartridge b i) := (Chosen.refl _ _).choose
  have hbay := State.bay_cartridgeTaken (s := s) (b := b) i
  have hbus (k : EntryClass) : (s.exchangeCartridge b i).busEntry b k = ((s.releaseCartridge b).releaseMeter b).busEntry b k := by
    rw [hc.busEntry, State.cartridgeTaken]
    simp [State.busEntry]
  refine ⟨?_, ?_, fun k hk => ?_, fun m hm => ?_, hc.told _ (State.told_raise (.bay b))⟩
  · rw [State.exchangeCartridge_eq, State.bay_tellChannel_out, State.bay_raise, hbay]
    all_goals
      rw [State.bay_raise, hbay]
      simp [Bay.takeCartridge]
  · rw [hc.hist, State.raise_hist, State.cartridgeTaken, State.modBay_hist, State.hist_releaseMeter]
  · rw [hbus, State.busEntry_releaseMeter_ne hk, State.busEntry_releaseCartridge]
  · rw [hbus]
    exact State.busEntry_releaseMeter (by rw [State.busEntry_releaseCartridge, hm])

/-! ## The duplicate (R11) -/

/-- The record of a bay refused for a duplicate serial. -/
theorem State.refuseDuplicate_record :
    ((s.refuseDuplicate b).bay b).state = .refused ∧ ((s.refuseDuplicate b).bay b).refusal = some .duplicateSerial ∧
      ((s.refuseDuplicate b).bay b).identity = none ∧ ((s.refuseDuplicate b).bay b).observed = none ∧
      ((s.refuseDuplicate b).bay b).step = none ∧ ((s.refuseDuplicate b).bay b).ctx = .clear ∧
      Told (s.refuseDuplicate b).link (.bay b) := by
  unfold State.refuseDuplicate
  extract_lets s1 s2
  have hc : Chosen (bayChan b) (s2.raise (.bay b)) ((s2.raise (.bay b)).tellChannel b) := (Chosen.refl _ _).choose
  have hbay : s2.bay b = { s1.bay b with
      state := .refused, refusal := some .duplicateSerial, identity := none, observed := none, step := none
      relinkAt := none, ctx := .clear } := State.bay_modBay _ _ _
  have hend : ((s2.raise (.bay b)).tellChannel b).bay b = s2.bay b := by
    rw [State.bay_tellChannel_out, State.bay_raise]
    all_goals
      rw [State.bay_raise, hbay]
      simp
  rw [hend, hbay]
  exact ⟨rfl, rfl, rfl, rfl, rfl, rfl, hc.told _ (State.told_raise (.bay b))⟩

/-- A bay without identity has no re-challenge and no link-up: the release of its SETUP entry changes no more than its
waiting requests (R64). -/
theorem State.releaseSetup_unidentified (hi : (s.bay b).identity = none) (hs : (s.bay b).step = none) :
    (s.releaseSetup b).bay b = s.bay b ∨
      (s.releaseSetup b).bay b = { s.bay b with waitRechallenge := false, waitMark := false } := by
  have hdrops : s.dropsRecheck b = true := by simp [State.dropsRecheck, hi]
  unfold State.releaseSetup
  dsimp only
  split
  · exact .inl rfl
  · right
    rw [if_neg (by rw [hs]; simp), if_neg (by simp [hdrops])]
    split <;> simp

/-! ## The report -/

/-- The record as the reply is read (R10). -/
def State.identRead (s : State) (b : BayId) (o : Observed) : State :=
  s.modBay b (fun v => { v with observed := some o, advanceSinceIdent := false })

theorem State.bay_identRead (o : Observed) :
    (s.identRead b o).bay b = { s.bay b with observed := some o, advanceSinceIdent := false } := by
  simp [State.identRead]

/-- Another cartridge than the one the bay held has answered (R10). -/
def Bay.exchanged (v : Bay) (i : Identity) : Prop :=
  v.state ≠ .linking ∧ ∃ held, v.identity = some held ∧ held.serial ≠ i.serial

theorem State.identTaken_duplicate (h : s.pinnedElsewhere b i.serial) (o : Observed) :
    s.identTaken b i o = (s.identRead b o).refuseDuplicate b :=
  if_pos ((s.identRead b o).duplicateSerial_iff.mpr h)

/-- The bay keeps its cartridge, or takes its first one. -/
theorem State.identTaken_same (h : ¬ s.pinnedElsewhere b i.serial) (o : Observed) (hx : ¬ (s.bay b).exchanged i) :
    s.identTaken b i o = ((s.identRead b o).modBay b (fun v => { v with identity := some i })).beginStep3 b := by
  unfold State.identTaken
  dsimp only
  split
  · next k => exact absurd ((s.identRead b o).duplicateSerial_iff.mp k) h
  split
  · rfl
  · rfl
  · next _ _ held hheld hstate =>
    rw [State.bay_modBay] at hstate hheld
    have hsame : held.serial = i.serial := by
      by_contra hne
      exact hx ⟨hstate, held, hheld, hne⟩
    rw [if_pos hsame]
    rfl

theorem State.identTaken_exchanged (h : ¬ s.pinnedElsewhere b i.serial) (o : Observed) (hx : (s.bay b).exchanged i) :
    s.identTaken b i o = ((s.identRead b o).exchangeCartridge b i).beginStep3 b := by
  obtain ⟨hstate, held, hheld, hne⟩ := hx
  unfold State.identTaken
  dsimp only
  split
  · next k => exact absurd ((s.identRead b o).duplicateSerial_iff.mp k) h
  split
  · next hk => exact absurd (by simpa using hk) hstate
  · next hk _ => simp [hheld] at hk
  · next _ _ held' hheld' hstate' =>
    rw [State.bay_modBay] at hheld'
    obtain rfl : held = held' := Option.some.inj (hheld.symm.trans hheld')
    rw [if_neg hne]
    rfl

theorem Identified.of_same (o : Observed) (hfree : s.busEntry b .setup = none) (halone : ¬ s.pinnedElsewhere b i.serial)
    (hblock : s.challenge.block ≠ .exhausted) :
    Identified b i o ((s.identRead b o).modBay b (fun v => { v with identity := some i })) :=
  ⟨by simp, by simp [State.identRead], by simp [State.identRead], by simpa [State.identRead] using hfree, halone, hblock⟩

theorem Identified.of_exchanged (o : Observed) (hfree : s.busEntry b .setup = none) (halone : ¬ s.pinnedElsewhere b i.serial)
    (hblock : s.challenge.block ≠ .exhausted) : Identified b i o ((s.identRead b o).exchangeCartridge b i) := by
  have h := Exchanged.of_exchange (s.identRead b o) b i
  have hw : Within (s.identRead b o) ((s.identRead b o).exchangeCartridge b i) := (Within.refl _).exchangeCartridge b i
  refine ⟨by rw [h.bay]; rfl, ?_, ?_, ?_, fun k => halone ?_, by rw [hw.challenge]; exact hblock⟩
  · rw [h.bay, State.bay_identRead]; rfl
  · rw [h.bay, State.bay_identRead]; rfl
  · rw [h.queue _ (by decide)]
    simpa [State.identRead] using hfree
  · refine (State.pinsFrom.releaseCartridge (s := s.identRead b o) b).elsewhere ?_
    unfold State.pinnedElsewhere at k ⊢
    rw [← h.hist]
    exact k

end Sys2Proof.Machine

/-! The reply to an IDENT gives the bay its identity and its exchange, refuses a duplicate, and exchanges a cartridge. -/

namespace Sys2Proof.Machine

variable {s t u : State} {b : BayId} {i held : Identity} {o : Observed}

theorem State.report_ident {e : BusEntry} (hop : e.op = .ident) (he : e.bay = b) (hstep : (s.bay b).step = some .ident)
    (n : Nonce) (i : Identity) (o : Observed) : s.report e .ok n (identData i o) = s.identTaken b i o := by
  subst he
  unfold State.report
  rw [hop]
  dsimp only
  unfold State.reportIdent
  rw [if_pos hstep, if_pos rfl, readIdentity_identData, readObserved_identData]

/-- The end of a report that refuses a duplicate (R11). -/
theorem State.identTaken_refused (h : s.pinnedElsewhere b i.serial) (o : Observed) :
    let t := (s.identTaken b i o).releaseSetup b
    (t.bay b).state = .refused ∧ (t.bay b).refusal = some .duplicateSerial ∧ (t.bay b).identity = none ∧
      (t.bay b).observed = none ∧ (t.bay b).step = none ∧ (t.bay b).ctx = .clear ∧ Told t.link (.bay b) := by
  rw [State.identTaken_duplicate h]
  obtain ⟨h1, h2, h3, h4, h5, h6, h7⟩ := State.refuseDuplicate_record (s := s.identRead b o) (b := b)
  have htold := ((Acts.refl (b := b)).releaseSetup).around.told _ h7
  rcases State.releaseSetup_unidentified h3 h5 with k | k
  all_goals
    dsimp only
    rw [k]
    exact ⟨h1, h2, h3, h4, h5, h6, htold⟩

/-- The end of a report that exchanges the cartridge and queues the CHALLENGE. -/
structure Replaced (b : BayId) (i : Identity) (o : Observed) (master : Key) (s t : State) : Prop
    extends Challenged b i o master ((s.identRead b o).exchangeCartridge b i) t where
  cleared : (t.bay b).committed = 0 ∧ (t.bay b).doubt = 0 ∧ (t.bay b).inFlight = 0 ∧ (t.bay b).owing = 0 ∧
    (t.bay b).verdict = .clean ∧ (t.bay b).score = 0 ∧ (t.bay b).lowWarned = false ∧ (t.bay b).countedOut = false ∧
    (t.bay b).probeEmptySeen = false ∧ (t.bay b).linkLost = false
  told : Told t.link (.bay b)
  meter : ∀ m, s.busEntry b .meter = some m →
    t.busEntry b .meter = if m.split.isSome = true then some { m with released := true } else none
  table : t.hist.table = ((s.identRead b o).releaseCartridge b).hist.table

/-- In LINKING a fresh exchange of a bay that was not GENUINE changes the record and the queue alone. -/
theorem Identified.fresh_linking (h : Identified b i o s) {master : Key} (hk : s.store.keys[i.keyGen.toNat] = some master)
    (hx : (s.bay b).ctx.exchange ≠ .linkup) (hs : (s.bay b).state = .linking) (ha : (s.bay b).auth ≠ .genuine) :
    ∃ c, ((s.beginStep3 b).releaseSetup b).bay b =
        { s.bay b with step := some .challenge, auth := .challenging, ctx := c } ∧
      ((s.beginStep3 b).releaseSetup b).link = s.link ∧ ((s.beginStep3 b).releaseSetup b).hist = s.hist ∧
      ((s.beginStep3 b).releaseSetup b).busEntry b .meter = s.busEntry b .meter := by
  have hset : s.challenging b = (s.atStep3 b).withAuth b .challenging := by
    rw [State.challenging_of_linking hs]
    exact State.setAuth_of_not_genuine (by rw [State.bay_atStep3]; exact ha) _
  have hfree : (s.challenging b).busEntry b .setup = none := h.challenging.2.2.2.2
  have hbusy : ((s.challenging b).beginExchange b .linkup (some .challenge)).busEntry b .setup = some _ :=
    State.busEntry_enqueue (by simpa using hfree) _ _
  rw [h.fresh hk hx, State.releaseSetup_of_busy hbusy, hset, State.beginExchange]
  refine ⟨{ (s.bay b).ctx with
      key := ((s.atStep3 b).withAuth b .challenging).derivedKey b, exchange := .linkup, mismatches := 0 }, ?_, ?_, ?_, ?_⟩
  · rw [State.bay_enqueue, State.bay_modBay, State.bay_withAuth_atStep3]
  · simp [State.enqueue, State.withAuth, State.atStep3]
  · simp [State.enqueue, State.withAuth, State.atStep3]
  · rw [State.busEntry_enqueue_ne (by decide)]
    simp [State.withAuth, State.atStep3]

theorem State.identTaken_replaced (hfree : s.busEntry b .setup = none) (halone : ¬ s.pinnedElsewhere b i.serial)
    (hblock : s.challenge.block ≠ .exhausted) (hx : (s.bay b).exchanged i) (o : Observed) {master : Key}
    (hk : s.store.keys[i.keyGen.toNat] = some master) :
    Replaced b i o master s ((s.identTaken b i o).releaseSetup b) := by
  rw [State.identTaken_exchanged halone o hx]
  have hE := Exchanged.of_exchange (s.identRead b o) b i
  have hI : Identified b i o ((s.identRead b o).exchangeCartridge b i) := .of_exchanged o hfree halone hblock
  have hw : Within (s.identRead b o) ((s.identRead b o).exchangeCartridge b i) := (Within.refl _).exchangeCartridge b i
  have hk' : ((s.identRead b o).exchangeCartridge b i).store.keys[i.keyGen.toNat] = some master := by rw [hw.store]; exact hk
  have hnone : (((s.identRead b o).exchangeCartridge b i).bay b).ctx.exchange ≠ .linkup := by
    rw [hE.bay]
    simp [Bay.takeCartridge, Bay.releaseFigures, AuthContext.clear]
  obtain ⟨c, hbay, hlink, hhist, hmeter⟩ := hI.fresh_linking hk' hnone (by rw [hE.bay]; rfl)
    (by rw [hE.bay]; simp [Bay.takeCartridge, Bay.releaseFigures])
  refine { hI.challenged hk' hnone with
    cleared := ?_, told := by rw [hlink]; exact hE.told, meter := fun m hm => ?_, table := by rw [hhist, hE.hist] }
  · rw [hbay, hE.bay]
    exact ⟨rfl, rfl, rfl, rfl, rfl, rfl, rfl, rfl, rfl, rfl⟩
  · rw [hmeter]
    exact hE.meter m (by simpa [State.identRead] using hm)

/-- The entry of the cartridge that the bay gave up. -/
theorem Replaced.entry {master : Key} (h : Replaced b i o master s t) {y : Entry} (hy : s.pinnedBy b = some y)
    (hheld : (s.bay b).identity = some held) :
    ∃ z ∈ t.hist.table, z.slot = y.slot ∧ z.pin = none ∧ z.dirty.isSome = true ∧
      z.data = refreshData (s.bay b) held b (s.meterAccepted b) y.data := by
  obtain ⟨z, hz, hslot, hpin, hdirty, hdata⟩ := State.releaseCartridge_entry (s := s.identRead b o) (b := b) (e := y)
    (i := held) hy (by rw [State.bay_identRead]; exact hheld)
  refine ⟨z, by rw [h.table]; exact hz, hslot, hpin, hdirty, ?_⟩
  rw [hdata, State.bay_identRead]
  rfl

/-- With its key slot empty a bay that exchanges its cartridge is UNVERIFIABLE. -/
theorem State.identTaken_keyless (hfree : s.busEntry b .setup = none) (halone : ¬ s.pinnedElsewhere b i.serial)
    (hblock : s.challenge.block ≠ .exhausted) (hx : (s.bay b).exchanged i) (o : Observed)
    (hk : s.store.keys[i.keyGen.toNat] = none) :
    let t := (s.identTaken b i o).releaseSetup b
    (t.bay b).auth = .unverifiable ∧ (t.bay b).ctx.key = none ∧ (t.bay b).ctx.exchange = .none := by
  have hw : Within (s.identRead b o) ((s.identRead b o).exchangeCartridge b i) := (Within.refl _).exchangeCartridge b i
  rw [State.identTaken_exchanged halone o hx]
  exact ((Identified.of_exchanged o hfree halone hblock).keyless (by rw [hw.store]; exact hk)).2

/-- Settles O30: the reply's identity is taken by one of three ways, the duplicate, the exchange or the bay's own
cartridge, and step 3 follows in the last two. -/
theorem identReplyTakesTheCartridge : Obligations.IdentReplyTakesTheCartridge := by
  intro s b x e i o hopen hop hstep hrange hblock
  obtain ⟨-, -, -, -, -, -, he, hcls⟩ := id hopen
  obtain ⟨at', hexec, hend, hnow⟩ := exec_setupReply (kind := 9) (r := .done) (o := .ok) (d := identData i o)
    (d' := identData i o) hopen hblock (.inl hop) (by decide) rfl (by rw [hop, identData_length]; rfl)
    (fun w => by
      rw [ReplyKind.attempt, State.actOn_setupDone hcls (by rw [hop]; decide)
        (fun _ => by rw [readIdentity_identData]; exact hrange), he])
  have hbay := State.bay_setupTaken (s := s) he at' .ok
  rw [State.report_ident hop he (by rw [hbay]; exact hstep)] at hexec hend hnow
  obtain ⟨hstore, hchal, helse⟩ := hend.conclude
  have hfree := State.busEntry_setupTaken (s := s) he hcls at' .ok
  have hmeter := State.busEntry_setupTaken_ne (s := s) he hcls at' .ok (k := .meter) (by decide)
  have hhist : (s.setupTaken b at' e .ok).hist = s.hist := State.setupTaken_hist _ _ _
  have hsame : (s.setupTaken b at' e .ok).store = s.store ∧ (s.setupTaken b at' e .ok).challenge = s.challenge := by
    simp [State.setupTaken, State.takenOut, State.noteOutcome, State.dequeue]
  generalize s.setupTaken b at' e .ok = a at *
  have hpinned : a.pinnedElsewhere b i.serial ↔ s.pinnedElsewhere b i.serial := by
    unfold State.pinnedElsewhere
    rw [hhist]
  have hblock' : a.challenge.block ≠ .exhausted := by rw [hsame.2]; exact hblock
  have hexch : (a.bay b).exchanged i ↔ (s.bay b).exchanged i := by rw [hbay]; exact Iff.rfl
  refine ⟨_, hexec, hstore, hchal, helse, fun hdup => ?_, fun hdup => ?_⟩
  · obtain ⟨h1, h2, h3, h4, h5, h6, h7⟩ := State.identTaken_refused (hpinned.mpr hdup) o
    rw [State.bay_conclude]
    exact ⟨h1, h2, h3, h4, h5, h6, State.told_conclude h7 hend.tx⟩
  have halone : ¬ a.pinnedElsewhere b i.serial := fun k => hdup (hpinned.mp k)
  have hkeys : a.store.keys[i.keyGen.toNat] = s.store.keys[i.keyGen.toNat] := by rw [hsame.1]
  dsimp only
  rw [State.bay_conclude, State.busEntry_conclude, State.busEntry_conclude, State.conclude_now, State.conclude_hist_table, hnow]
  by_cases hx : (s.bay b).exchanged i
  · have hx' := hexch.mpr hx
    have hw : Within (a.identRead b o) ((a.identRead b o).exchangeCartridge b i) := (Within.refl _).exchangeCartridge b i
    refine ⟨?_, fun hk => ?_, fun master hk => ?_⟩
    · rw [State.identTaken_exchanged halone o hx']
      exact (Identified.of_exchanged o hfree halone hblock').identity_kept
    · exact State.identTaken_keyless hfree halone hblock' hx' o (hkeys.trans hk)
    · have hR := State.identTaken_replaced hfree halone hblock' hx' o (hkeys.trans hk)
      have hlinking : (((a.identRead b o).exchangeCartridge b i).bay b).state = .linking := by
        rw [(Exchanged.of_exchange _ _ _).bay]
        rfl
      obtain ⟨hkey, hlinkup, hmis⟩ := hR.ctx
      obtain ⟨f1, f2, f3, f4, f5, f6, f7, f8, f9, f10⟩ := hR.cleared
      refine ⟨hR.step, hR.observed, hlinkup, hR.setup.trans (by rw [hw.now]; rfl), fun _ => ⟨hR.auth, hkey, hmis⟩,
        fun _ n => absurd hx n, fun n => absurd hx n, fun _ => hR.linking hlinking, fun _ =>
        ⟨f1, f2, f3, f4, f5, f6, f7, f8, f9, f10, State.told_conclude hR.told hend.tx,
          fun m hm => hR.meter m (hmeter.trans hm), fun y held hy hheld => ?_⟩⟩
      obtain ⟨z, hz, hslot, hpin, hdirty, hdata⟩ := hR.entry (y := y) (held := held)
        (by rw [← hy]; unfold State.pinnedBy; rw [hhist]) (by rw [hbay]; exact hheld)
      refine ⟨z, hz, hslot, hpin, hdirty, ?_⟩
      rw [hdata, hbay]
      unfold State.meterAccepted
      rw [hmeter]
      rfl
  · have hx' : ¬ (a.bay b).exchanged i := fun k => hx (hexch.mp k)
    rw [State.identTaken_same halone o hx']
    have hI : Identified b i o ((a.identRead b o).modBay b (fun v => { v with identity := some i })) :=
      .of_same o hfree halone hblock'
    have hp : ((a.identRead b o).modBay b (fun v => { v with identity := some i })).bay b =
        { s.bay b with lastOutcome := some .ok, observed := some o, advanceSinceIdent := false, identity := some i } := by
      rw [State.bay_modBay, State.bay_identRead, hbay]
    have hnow' : ((a.identRead b o).modBay b (fun v => { v with identity := some i })).now = a.now := rfl
    have hkeys' : ((a.identRead b o).modBay b (fun v => { v with identity := some i })).store.keys[i.keyGen.toNat] =
        s.store.keys[i.keyGen.toNat] := hkeys
    generalize (a.identRead b o).modBay b (fun v => { v with identity := some i }) = p at *
    refine ⟨hI.identity_kept, fun hk => (hI.keyless (hkeys'.trans hk)).2, fun master hk => ?_⟩
    · by_cases hl : (s.bay b).ctx.exchange = .linkup
      · obtain ⟨h1, h2⟩ := hI.again (hkeys'.trans hk) (by rw [hp]; exact hl)
        rw [h1, h2, hnow', hp]
        exact ⟨rfl, rfl, hl, rfl, fun n => (n.elim (absurd hl) (absurd · hx)), fun _ _ => ⟨rfl, rfl⟩,
          fun _ _ => ⟨rfl, rfl, rfl, rfl⟩, fun n => n.elim id (absurd · hx), fun n => absurd n hx⟩
      · have hC := hI.challenged (hkeys'.trans hk) (by rw [hp]; exact hl)
        obtain ⟨hkey, hlinkup, hmis⟩ := hC.ctx
        refine ⟨hC.step, hC.observed, hlinkup, hC.setup.trans (by rw [hnow']), fun _ => ⟨hC.auth, hkey, hmis⟩,
          fun n => absurd n hl, fun _ n => ?_, fun n => hC.linking ?_, fun n => absurd n hx⟩
        · have hfig := hC.figures (by rw [hp]; exact n)
          rw [hp] at hfig
          exact hfig
        · rw [hp]
          exact n.elim id (absurd · hx)

end Sys2Proof.Machine

/-! What the end of a link-up keeps of the cartridge's figures and of its entry (R13, R14, R15, R87, R88). -/

namespace Sys2Proof.Machine

variable {s t u : State} {b : BayId} {i : Identity} {o : Observed} {c d n r : Nat}

/-! ## Steps that keep the figures -/

/-- The cartridge, its figures and its entry are kept; the link-up's step and the bay's place may change. -/
structure Carried (b : BayId) (s t : State) : Prop where
  bay : (s.bay b).holdsSame (t.bay b)
  idle : s.meterIdle b → t.meterIdle b
  flow : s.meterIdle b → (t.bay b).owing = (s.bay b).owing
  retold : ∃ f, Retold b s t f
  verdict : s.tracks b → t.tracks b ∧ s.rankKept t b
  booked : s.booked b → t.booked b

theorem Tested.carried (h : Tested b s t) : Carried b s t :=
  ⟨h.bay, h.idle, fun w => (h.flow w).2, h.retold, h.verdict, h.booked⟩

namespace Carried

theorem refl (b : BayId) (s : State) : Carried b s s := (Tested.refl b s).carried

theorem trans (h : Carried b s t) (k : Carried b t u) : Carried b s u where
  bay := h.bay.trans k.bay
  idle w := k.idle (h.idle w)
  flow w := (k.flow (h.idle w)).trans (h.flow w)
  retold := by
    obtain ⟨f, hf⟩ := h.retold
    obtain ⟨g, hg⟩ := k.retold
    exact ⟨_, hf.trans hg⟩
  verdict w := by
    obtain ⟨h1, h2⟩ := h.verdict w
    obtain ⟨k1, k2⟩ := k.verdict h1
    obtain ⟨f, hf⟩ := h.retold
    refine ⟨k1, fun e x he hx => ?_⟩
    have hmid : t.pinnedBy b = some (f e) := by rw [hf.pinnedBy, he, Option.map_some]
    exact (h2 e (f e) he hmid).trans (k2 (f e) x hmid hx)
  booked w := k.booked (h.booked w)

theorem tested (h : Carried b s t) (k : Tested b t u) : Carried b s u := h.trans k.carried

/-- An operation that leaves the table and the METER entry alone. -/
theorem of_table (hb : (s.bay b).holdsSame (t.bay b)) (ho : (t.bay b).owing = (s.bay b).owing)
    (hv : (t.bay b).verdict = (s.bay b).verdict) (hm : t.busEntry b .meter = s.busEntry b .meter)
    (ht : t.hist.table = s.hist.table) : Carried b s t := by
  have hpin : t.pinnedBy b = s.pinnedBy b := by unfold State.pinnedBy; rw [ht]
  exact {
    bay := hb
    idle := fun w => w.of_busEntry hm
    flow := fun _ => ho
    retold := ⟨id, .of_eq ht⟩
    verdict := fun w => ⟨fun e he => by rw [hv]; exact w e (hpin ▸ he), fun e x he hx => by
      rw [hpin, he] at hx
      cases hx
      exact Nat.le_refl _⟩
    booked := fun w => ⟨w.1.of_busEntry hm, fun e he => by
      rw [hb.committed, hb.doubt]
      exact w.2 e (hpin ▸ he)⟩ }

theorem modBay (h : Carried b s t) (f : Bay → Bay)
    (hf : ∀ v : Bay, v.holdsSame (f v) ∧ (f v).owing = v.owing ∧ (f v).verdict = v.verdict := by
      exact fun _ => ⟨rfl, rfl, rfl⟩) : Carried b s (t.modBay b f) := by
  obtain ⟨h1, h2, h3⟩ := hf (t.bay b)
  exact h.trans (of_table (by simpa using h1) (by simpa using h2) (by simpa using h3) (by simp) rfl)

theorem enqueueSetup (h : Carried b s t) (op : BusOp) (x : Option LinkStep) : Carried b s (t.enqueue b .setup op x) :=
  h.trans (of_table (by rw [State.bay_enqueue]; exact .refl _) (by simp) (by simp)
    (State.busEntry_enqueue_ne (by decide) _ _) (by simp [State.enqueue]))

theorem enterService (h : Carried b s t) (st : BayState) : Carried b s (t.enterService b st) := by
  unfold State.enterService
  extract_lets s1 s2 s3
  have w1 : Carried b s s1 := (h.modBay _).tested (Tested.refl b _).startWriteBack
  have w2 : Carried b s s2 := w1.tested (Tested.refl b _).levelTests
  have w3 : Carried b s s3 := by
    unfold s3
    split
    · exact w2.tested (Tested.refl b _).probeReturn
    · exact w2
  exact w3.tested ((Tested.refl b _).writeBackTrigger _)

theorem completeLink (h : Carried b s t) : Carried b s (t.completeLink b) := by
  unfold State.completeLink
  split
  · exact h
  · extract_lets s1 v s2
    have w1 : Carried b s s1 := h.modBay _
    have w2 : Carried b s s2 := by
      unfold s2
      split
      · exact (w1.modBay _).tested ((Tested.refl b _).levelTests.writeBackTrigger _)
      · split
        · exact w1.tested ((Tested.refl b _).spendBay.levelTests.writeBackTrigger _)
        · exact w1.enterService _
    exact w2.tested ((Tested.refl b _).tellChannel.raise _)

theorem beginStep5 (h : Carried b s t) : Carried b s (t.beginStep5 b) := by
  unfold State.beginStep5
  extract_lets v clear
  split
  · exact (h.modBay _).enqueueSetup _ _
  · exact h.completeLink

end Carried

/-! ## The bay holds a cartridge with its figures -/

/-- The bay holds the cartridge `i` with the figures `c`, `d` and `n`, and pins its entry, whose verdict is the record's
and of at least the rank `r`. -/
structure Held (b : BayId) (i : Identity) (c d n r : Nat) (s : State) : Prop where
  identity : (s.bay b).identity = some i
  figures : (s.bay b).committed = c ∧ (s.bay b).doubt = d ∧ (s.bay b).owing = n
  idle : s.meterIdle b
  tracks : s.tracks b
  pinned : ∃ x, s.pinnedBy b = some x ∧ x.data.serial = i.serial ∧ r ≤ x.data.verdict.rank

namespace Held

theorem carried (h : Held b i c d n r s) (k : Carried b s t) : Held b i c d n r t := by
  obtain ⟨hc, hd, hn⟩ := h.figures
  obtain ⟨ht, hrank⟩ := k.verdict h.tracks
  obtain ⟨f, hf⟩ := k.retold
  obtain ⟨x, hx, hserial, hr⟩ := h.pinned
  have hx' : t.pinnedBy b = some (f x) := by rw [hf.pinnedBy, hx, Option.map_some]
  exact ⟨k.bay.identity.trans h.identity,
    ⟨k.bay.committed.trans hc, k.bay.doubt.trans hd, (k.flow h.idle).trans hn⟩, k.idle h.idle, ht,
    f x, hx', (hf.key x).2.1.trans hserial, hr.trans (hrank x _ hx hx')⟩

theorem tested (h : Held b i c d n r s) (k : Tested b s t) : Held b i c d n r t := h.carried k.carried

/-- The settling of the figures by the chip's counter (R88). -/
theorem settle (h : Held b i c d n r s) (k : Nat) :
    Held b i k 0 (fit48 (n + settleGrowth k c d)) r (s.modBay b (fun v => v.settle k v.committed v.doubt)) := by
  obtain ⟨hc, hd, hn⟩ := h.figures
  refine ⟨by simpa [Bay.settle] using h.identity, by simp [Bay.settle, hc, hd, hn], h.idle.of_busEntry (by simp), ?_, h.pinned⟩
  intro e he
  simpa [Bay.settle] using h.tracks e he

/-- The marked flag moves nothing else (R123). -/
theorem setMarked (h : Held b i c d n r s) {e : Entry} (he : s.pinnedBy b = some e) :
    Held b i c d n r (s.setMarked e.data.serial) := by
  obtain ⟨x, hx, hserial, hr⟩ := h.pinned
  obtain rfl : x = e := Option.some.inj (hx.symm.trans he)
  have hpin : (s.setMarked x.data.serial).pinnedBy b =
      some ((Entry.withData (fun d => { d with marked := true }) x).touch s.hist.writeOrder) := by
    unfold State.pinnedBy State.setMarked State.writeEntry
    dsimp only
    rw [find_map _ _ (fun y => by split <;> rfl)]
    rw [show List.find? (fun y => y.pin == some b) s.hist.table = some x from hx, Option.map_some, if_pos (by simp)]
  refine ⟨h.identity, h.figures, h.idle.of_busEntry rfl, fun y hy => ?_, _, hpin, hserial, hr⟩
  rw [hpin] at hy
  cases hy
  exact h.tracks x hx

theorem examineMark (h : Held b i c d n r s) (o : Observed) (v : Verdict) : Held b i c d n r (s.examineMark b o v) := by
  unfold State.examineMark
  split
  · exact h
  · next e he =>
    split
    · exact h
    · split
      · exact h.setMarked he
      · exact (h.setMarked he).tested ((Tested.refl b _).score _ _ _)

end Held

/-- The refreshed entry holds the figures (R138). -/
theorem Held.booked_refresh (h : Held b i c d n r s) : (s.refresh b).booked b := by
  refine ⟨h.idle.of_busEntry (State.busEntry_refresh _ _ _), fun x hx => ?_⟩
  rw [State.bay_refresh]
  obtain ⟨e, he, rfl⟩ := Option.map_eq_some_iff.mp ((State.refresh_pinnedBy b b).symm.trans hx)
  rw [State.refreshed_of_pinned he h.identity, h.idle.accepted]
  exact ⟨rfl, rfl⟩

/-! ## Step 4 settles the figures -/

/-- What a settled link-up leaves. -/
structure Settled (b : BayId) (i : Identity) (c n r : Nat) (s : State) : Prop extends Held b i c 0 n r s where
  booked : s.booked b

theorem Settled.carried (h : Settled b i c n r s) (k : Carried b s t) : Settled b i c n r t :=
  ⟨h.toHeld.carried k, k.booked h.booked⟩

/-- The entry of a settled cartridge. -/
theorem Settled.entry (h : Settled b i c n r s) : ∃ z ∈ s.hist.table, z.data.serial = i.serial ∧ z.pin = some b ∧
    z.data.confirmed = c ∧ z.data.inDoubt = 0 ∧ r ≤ z.data.verdict.rank := by
  obtain ⟨x, hx, hserial, hr⟩ := h.pinned
  obtain ⟨hc, hd, -⟩ := h.figures
  obtain ⟨hmem, hpin⟩ := State.pinnedBy_mem hx
  obtain ⟨hconf, hdoubt⟩ := h.booked.2 x hx
  exact ⟨x, hmem, hserial, hpin, hconf.trans hc, hdoubt.trans (by rw [hd]; rfl), hr⟩

/-- Step 4 after the lookup, and the steps that follow it (R13, R87). -/
theorem Held.reconcile (h : Held b i c d n r s) (o : Observed) :
    Settled b i o.counter.toNat (fit48 (n + settleGrowth o.counter.toNat c d)) r (s.reconcile b o) := by
  unfold State.reconcile
  extract_lets v k s1 s2 s3 s4
  have w1 : Held b i k 0 (fit48 (n + settleGrowth k c d)) r s1 := h.settle k
  have w2 : Held b i k 0 (fit48 (n + settleGrowth k c d)) r s2 := w1.tested ((Tested.refl b _).settleEvidence _ _ _)
  have w4 : Held b i k 0 (fit48 (n + settleGrowth k c d)) r s4 :=
    (w2.examineMark o v.verdict).carried ((Carried.refl b _).modBay _)
  have w5 : Settled b i k (fit48 (n + settleGrowth k c d)) r (s4.refresh b) :=
    ⟨w4.tested ((Tested.refl b _).refresh w4.tracks), w4.booked_refresh⟩
  exact w5.carried (Carried.refl b _).beginStep5

/-- A lookup that held the cartridge leads to the settling. -/
theorem Held.looked (h : Held b i c d n r s) (o : Observed) (v : Verdict) :
    Settled b i o.counter.toNat (fit48 (n + settleGrowth o.counter.toNat c d)) r
      (((s.verdictTaken b v).evaluate b).reconcile b o) := by
  have hv : Held b i c d n r (s.verdictTaken b v) := by
    unfold State.verdictTaken
    split
    · exact h
    · exact h.tested (Tested.refl b _).policyTest
  exact (hv.tested (Tested.refl b _).evaluate).reconcile o

end Sys2Proof.Machine

/-! The lookup of a first link-up, and its settling after a CHALLENGE that matches (R13, R88, R136). -/

namespace Sys2Proof.Machine

variable {s t u : State} {b : BayId} {i : Identity} {o : Observed}

/-! ## The entry looked up is pinned by the bay -/

/-- A renumbering finds the same entry of a serial, with another stamp. -/
theorem find_renumber (serial : Word64) (n : Nat) (l : List Entry) {y : Entry}
    (h : l.find? (fun e => e.data.serial == serial) = some y) :
    ∃ x, (renumber n l).find? (fun e => e.data.serial == serial) = some x ∧
      x.data = { y.data with stamp := x.data.stamp } := by
  induction l with
  | nil => cases h
  | cons e es ih =>
    rw [List.find?_cons] at h
    rw [renumber, List.find?_cons]
    cases hs : e.data.serial == serial with
    | true =>
      rw [hs] at h
      cases h
      refine ⟨Entry.touch { y with data := { y.data with stamp := es.length + 1 } } (n + es.length), ?_, rfl⟩
      rw [show (Entry.touch { y with data := { y.data with stamp := es.length + 1 } }
        (n + es.length)).data.serial = y.data.serial from rfl, hs]
    | false =>
      rw [hs] at h
      simpa [Entry.touch, hs] using ih h

theorem State.entryOf_readyStamp {serial : Word64} {y : Entry} (h : s.entryOf? serial = some y) :
    ∃ x, s.readyStamp.entryOf? serial = some x ∧ x.data = { y.data with stamp := x.data.stamp } := by
  unfold State.readyStamp
  split
  · exact ⟨y, h, rfl⟩
  · exact find_renumber serial _ _ h

/-- The entry that is taken stands first, pinned. -/
theorem State.pinnedBy_takeEntry {serial : Word64} {y : Entry} (h : s.entryOf? serial = some y) (b : BayId) :
    ∃ x, (s.takeEntry serial b).pinnedBy b = some x ∧ x.data = { y.data with stamp := x.data.stamp, lastBay := b } := by
  obtain ⟨z, hz, hdata⟩ := State.entryOf_readyStamp h
  unfold State.takeEntry
  dsimp only
  rw [hz]
  refine ⟨_, List.find?_cons_of_pos (by simp [Entry.touch]), ?_⟩
  rw [hdata]
  rfl

/-- Joining the power-fail set changes no entry's data. -/
theorem State.pinnedBy_joinPinned {e : Entry} (h : s.pinnedBy b = some e) :
    ∃ x, (s.joinPinned b).pinnedBy b = some x ∧ x.data = e.data := by
  unfold State.joinPinned
  rw [h]
  dsimp only
  unfold State.pfJoin
  split
  · refine ⟨if e.data.serial == e.data.serial then { e with pfSave := true } else e, ?_, by simp⟩
    unfold State.pinnedBy at h ⊢
    dsimp only
    rw [find_map _ _ (fun x => by split <;> rfl), h, Option.map_some]
  · exact ⟨e, h, rfl⟩

/-- What a lookup leaves: the bay pins an entry of its cartridge. -/
theorem Held.joinPinned {c d n r : Nat} {e : Entry} (he : s.pinnedBy b = some e) (hserial : e.data.serial = i.serial)
    (hr : r ≤ e.data.verdict.rank) (hv : e.data.verdict = (s.bay b).verdict) (hi : (s.bay b).identity = some i)
    (hf : (s.bay b).committed = c ∧ (s.bay b).doubt = d ∧ (s.bay b).owing = n) (hm : s.meterIdle b) :
    Held b i c d n r (s.joinPinned b) := by
  obtain ⟨x, hx, hdata⟩ := State.pinnedBy_joinPinned he
  have hrec : Recorded s (s.joinPinned b) := (Recorded.refl s).joinPinned b
  have hbay := hrec.bay b
  refine ⟨by rw [hbay]; exact hi, by rw [hbay]; exact hf, hm.of_busEntry (hrec.busEntry _ _), fun y hy => ?_, x, hx,
    by rw [hdata]; exact hserial, by rw [hdata]; exact hr⟩
  rw [hx] at hy
  cases hy
  rw [hdata, hbay, hv]

/-- A lookup that finds the cartridge's entry takes its figures (R136). -/
theorem State.lookup_found {y : Entry} (hi : (s.bay b).identity = some i) (hy : s.entryOf? i.serial = some y)
    (hm : s.meterIdle b) (o : Observed) :
    ∃ w, s.lookup b i o = some w ∧ Held b i y.data.confirmed y.data.inDoubt (fit48 ((s.bay b).owing + y.data.owed))
      y.data.verdict.rank w := by
  have hlook : s.lookup b i o =
      some (((s.takeEntry i.serial b).modBay b (fun v => v.takeFigures y.data)).joinPinned b) := by
    unfold State.lookup
    rw [hy]
    rfl
  have hrec : Recorded s (s.takeEntry i.serial b) := (Recorded.refl s).takeEntry _ _
  obtain ⟨x, hx, hdata⟩ := State.pinnedBy_takeEntry hy b
  have hbay : ((s.takeEntry i.serial b).modBay b (fun v => v.takeFigures y.data)).bay b = (s.bay b).takeFigures y.data := by
    rw [State.bay_modBay, hrec.bay]
  have hserial : y.data.serial = i.serial := by
    have := List.find?_some (p := fun e : Entry => e.data.serial == i.serial) hy
    simpa using this
  refine ⟨_, hlook, Held.joinPinned (e := x) hx (by rw [hdata]; exact hserial) (by rw [hdata]) ?_ ?_ ?_ ?_⟩
  · rw [hbay, hdata]; rfl
  · rw [hbay]; exact hi
  · rw [hbay]; exact ⟨rfl, rfl, rfl⟩
  · exact hm.of_busEntry (by rw [State.busEntry_modBay, hrec.busEntry])

/-- A lookup that finds none creates an entry where a slot is free (R136). -/
theorem State.lookup_created (hi : (s.bay b).identity = some i) (hnone : s.entryOf? i.serial = none)
    (hslot : s.freeSlot.isSome = true) (hm : s.meterIdle b) (o : Observed) :
    ∃ w, s.lookup b i o = some w ∧ Held b i o.counter.toNat 0 (s.bay b).owing 0 w := by
  obtain ⟨sl, hsl⟩ := Option.isSome_iff_exists.mp hslot
  have hcreate : s.createEntry i b (some b) o.counter.toNat 0 =
      some (s.readyStamp.pushEntry (newEntry i sl b (some b) o.counter.toNat 0)) := by
    unfold State.createEntry
    rw [hsl]
  have hrec : Recorded s (s.readyStamp.pushEntry (newEntry i sl b (some b) o.counter.toNat 0)) :=
    (Recorded.refl s).createEntry hcreate
  set p := s.readyStamp.pushEntry (newEntry i sl b (some b) o.counter.toNat 0) with hp
  have hlook : s.lookup b i o = some ((p.modBay b (fun v =>
      { v with committed := o.counter.toNat, doubt := 0, verdict := .clean, score := 0 })).joinPinned b) := by
    unfold State.lookup
    rw [hnone]
    dsimp only
    rw [hcreate]
    rfl
  have hpin : p.pinnedBy b = some (newEntry i sl b (some b) o.counter.toNat 0 s.readyStamp.hist.linkSeq
      s.readyStamp.hist.writeOrder) := List.find?_cons_of_pos (by simp [newEntry])
  have hbay : (p.modBay b (fun v =>
      { v with committed := o.counter.toNat, doubt := 0, verdict := .clean, score := 0 })).bay b =
      { s.bay b with committed := o.counter.toNat, doubt := 0, verdict := .clean, score := 0 } := by
    rw [State.bay_modBay, hrec.bay]
  refine ⟨_, hlook, Held.joinPinned hpin rfl (Nat.zero_le _) ?_ ?_ ?_ ?_⟩
  · rw [hbay]; rfl
  · rw [hbay]; exact hi
  · rw [hbay]; exact ⟨rfl, rfl, rfl⟩
  · exact hm.of_busEntry (by rw [State.busEntry_modBay, hrec.busEntry])

/-! ## The response that matches -/

/-- The bay as step 4 looks its cartridge up. -/
structure Ready4 (b : BayId) (i : Identity) (o : Observed) (s : State) : Prop where
  linking : (s.bay b).state = .linking
  identity : (s.bay b).identity = some i
  observed : (s.bay b).observed = some o
  clear : (s.bay b).advanceSinceIdent = false
  alone : ¬ s.pinnedElsewhere b i.serial
  idle : s.busEntry b .meter = none

/-- In a first link-up step 4 goes on to the lookup (R13). -/
theorem Ready4.tryStep4 (h : Ready4 b i o s) {w : State} (hw : s.lookup b i o = some w) :
    s.tryStep4 b = ((w.verdictTaken b (s.bay b).verdict).evaluate b).reconcile b o := by
  have hout : s.advanceOutstanding b = false := by
    unfold State.advanceOutstanding
    rw [h.idle]
  unfold State.tryStep4
  dsimp only
  rw [h.identity, h.observed]
  dsimp only
  rw [if_neg (fun k => h.alone (State.duplicateSerial_iff.mp k)), if_neg (by simp [hout]), if_neg (by simp [h.clear]),
    if_neg (fun k => k.1 h.linking), hw]

/-- The record as the matched exchange has ended and step 4 begins (R12, R59). -/
def State.atStep4 (s : State) (b : BayId) : State :=
  (((s.modBay b (fun v => { v with ctx := { v.ctx with exchange := .none }, writeBacks := 0 })).withAuth b
    .genuine)).modBay b (fun v => { v with step := some .reconcile })

theorem State.bay_atStep4 : (s.atStep4 b).bay b = { s.bay b with
    ctx := { (s.bay b).ctx with exchange := .none }, writeBacks := 0, auth := .genuine, step := some .reconcile } := by
  simp [State.atStep4, State.withAuth]

theorem State.endLinkExchange_genuine (h : (s.bay b).state = .linking) :
    s.endLinkExchange b .genuine = (s.atStep4 b).tryStep4 b := by
  set w := s.modBay b (fun v => { v with ctx := { v.ctx with exchange := .none }, writeBacks := 0 }) with hw
  have hset : w.setAuth b .genuine = w.withAuth b .genuine := by
    unfold State.setAuth
    exact if_neg (by simp)
  have hstate : ((w.withAuth b .genuine).bay b).state = .linking := by
    rw [State.bay_withAuth, hw, State.bay_modBay]
    exact h
  have hpolicy : w.linkAuth b .genuine = w.withAuth b .genuine := by
    unfold State.linkAuth
    rw [hset]
    exact State.policyTestWith_of_not_found (by rw [hstate]; decide) fun r ⟨_, _, hserv, _⟩ => by
      rw [hstate] at hserv
      simp [BayState.serviceable] at hserv
  unfold State.endLinkExchange
  dsimp only
  rw [← hw, hpolicy]
  rfl

theorem Ready4.atStep4 (h : Ready4 b i o s) : Ready4 b i o (s.atStep4 b) := by
  refine ⟨?_, ?_, ?_, ?_, h.alone, ?_⟩
  · rw [State.bay_atStep4]; exact h.linking
  · rw [State.bay_atStep4]; exact h.identity
  · rw [State.bay_atStep4]; exact h.observed
  · rw [State.bay_atStep4]; exact h.clear
  · simpa [State.atStep4, State.withAuth] using h.idle

/-- A matched CHALLENGE settles a cartridge whose entry is found. -/
theorem Ready4.settled_found (h : Ready4 b i o s) {y : Entry} (hy : s.entryOf? i.serial = some y) :
    Settled b i o.counter.toNat
      (fit48 (fit48 ((s.bay b).owing + y.data.owed) + settleGrowth o.counter.toNat y.data.confirmed y.data.inDoubt))
      y.data.verdict.rank ((s.endLinkExchange b .genuine).releaseSetup b) := by
  have h4 := h.atStep4
  obtain ⟨w, hw, hheld⟩ := State.lookup_found h4.identity (y := y) hy (.of_none h4.idle) o
  rw [State.endLinkExchange_genuine h.linking, h4.tryStep4 hw]
  rw [State.bay_atStep4] at hheld
  exact (hheld.looked o _).carried (Tested.refl b _).releaseSetup.carried

/-- A matched CHALLENGE settles a cartridge for which an entry is created. -/
theorem Ready4.settled_created (h : Ready4 b i o s) (hnone : s.entryOf? i.serial = none)
    (hslot : s.freeSlot.isSome = true) :
    Settled b i o.counter.toNat (fit48 (s.bay b).owing) 0 ((s.endLinkExchange b .genuine).releaseSetup b) := by
  have h4 := h.atStep4
  obtain ⟨w, hw, hheld⟩ := State.lookup_created h4.identity hnone hslot (.of_none h4.idle) o
  have hzero : settleGrowth o.counter.toNat o.counter.toNat 0 = 0 := by simp [settleGrowth_eq]
  rw [State.bay_atStep4] at hheld
  have hend := (hheld.looked o (((s.atStep4 b).bay b).verdict)).carried (Tested.refl b _).releaseSetup.carried
  rw [State.endLinkExchange_genuine h.linking, h4.tryStep4 hw]
  rwa [hzero] at hend

end Sys2Proof.Machine

/-! The completion of a link-up, and the Channel Unit's choice that follows it (R15, R82, R100 to R107). -/

namespace Sys2Proof.Machine

variable {s t u : State} {b : BayId}

/-! ## The choice and the bay it feeds from -/

/-- A choice leaves things, starves the channel of an active bay without a rank, or begins a changeover. -/
theorem State.choose_starves (s : State) (c : ChanId) :
    s.choose c = s ∨ (s.choose c = s.enterStarved c ∧ ∃ sd, (s.chan c).active = some sd ∧ s.rank c sd = .none) ∨
      ∃ sd, s.choose c = s.changeover c sd := by
  have hnone {r : Rank} (h : r.level = 0) : r = .none := by cases r <;> first | rfl | simp [Rank.level] at h
  unfold State.choose
  split
  · exact .inl rfl
  · split
    · exact .inr (.inr ⟨_, rfl⟩)
    · exact .inl rfl
  all_goals
    split
    · exact .inl rfl
    · next sd hactive =>
      dsimp only
      split
      · exact .inr (.inr ⟨_, rfl⟩)
      · split
        · next hzero => exact .inr (.inl ⟨rfl, sd, hactive, hnone hzero⟩)
        · exact .inl rfl

/-- The bay is READY or ACTIVE, and ACTIVE exactly when its channel feeds from it. -/
def State.feeds (s : State) (b : BayId) : Prop :=
  ((s.bay b).state = .ready ∨ (s.bay b).state = .active) ∧
    ((s.bay b).state = .active ↔ (s.chan (bayChan b)).active = some (baySide b))

theorem State.state_enterActive (h : (s.bay b).state = .ready ∨ (s.bay b).state = .active) :
    ((s.enterActive b).bay b).state = .active := by
  unfold State.enterActive State.readyToActive State.startWriteBack
  rcases h with h | h <;> repeat' split
  all_goals simp_all

theorem State.feeds.changeover (h : s.feeds b) (sd : Side) : (s.changeover (bayChan b) sd).feeds b := by
  obtain ⟨hstate, hactive⟩ := h
  unfold State.feeds
  rw [State.chan_changeover, State.bay_changeover]
  simp only [Channel.change, Option.some.injEq]
  by_cases hsd : sd = baySide b
  · subst hsd
    have hleft : (s.leaveOld (bayChan b) (baySide b)).bay b = s.bay b := by
      unfold State.leaveOld Channel.leaves State.leaveActive
      repeat' split
      · next old hold _ =>
        refine s.bay_modBay_ne (fun k => ?_) _
        have hne : old ≠ baySide b := by
          split at hold
          · split at hold
            · cases hold
            · next hne => cases hold; exact hne
          · cases hold
        rw [k] at hne
        simp at hne
      all_goals rfl
    rw [sideBay_bayChan, State.state_enterActive (by rw [hleft]; exact hstate)]
    exact ⟨.inr rfl, iff_of_true rfl rfl⟩
  · have hother : b ≠ sideBay (bayChan b) sd := fun k => hsd (by rw [k]; simp)
    rw [State.bay_enterActive_ne hother]
    have hready : ((s.leaveOld (bayChan b) sd).bay b).state = .ready := by
      by_cases hact : (s.bay b).state = .active
      · have hleaves : (s.chan (bayChan b)).leaves sd = some (baySide b) := by
          unfold Channel.leaves
          rw [hactive.mp hact]
          exact if_neg (fun k => hsd k.symm)
        unfold State.leaveOld
        rw [hleaves]
        dsimp only
        rw [sideBay_bayChan]
        unfold State.leaveActive
        rw [if_pos hact]
        simp
      · rw [State.bay_leaveOld_of_not_active _ _ hact]
        exact hstate.resolve_right hact
    rw [hready]
    exact ⟨.inl rfl, iff_of_false (by decide) hsd⟩

/-- A choice keeps a bay that has a rank in step with its channel's active bay (R102 to R107). -/
theorem State.feeds.tellChannel (h : s.feeds b)
    (hrank : (s.bay b).state = .active → s.rank (bayChan b) (baySide b) ≠ .none) : (s.tellChannel b).feeds b := by
  unfold State.tellChannel
  rcases s.choose_starves (bayChan b) with e | ⟨e, sd, hsd, hzero⟩ | ⟨sd, e⟩
  · rw [e]
    exact h
  · obtain ⟨hstate, hactive⟩ := h
    have hnot : (s.bay b).state ≠ .active := fun k => by
      have hside := hactive.mp k
      rw [hsd] at hside
      exact hrank k (Option.some.inj hside ▸ hzero)
    have hbay : (s.enterStarved (bayChan b)).bay b = s.bay b := by simp [State.enterStarved]
    have hnone : ((s.enterStarved (bayChan b)).chan (bayChan b)).active = none := by
      simp [State.enterStarved, Channel.starve]
    unfold State.feeds
    rw [e, hbay, hnone]
    exact ⟨hstate, iff_of_false hnot (by simp)⟩
  · rw [e]
    exact h.changeover sd

/-- An identified bay in service whose authentication is decided and which no policy refuses has a rank (R100). -/
theorem rankOf_ne_none {k : Settings} {i : Identity} {v : Bay} (hi : v.identity = some i) (hc : i.colour = k.colour)
    (hs : v.state = .active) (hdue : refusalDue k v = none) (h1 : v.auth ≠ .none) (h2 : v.auth ≠ .challenging) :
    rankOf (some k) v ≠ .none := by
  have hno := refusalDue_isSome (c := k) (v := v)
  rw [hdue] at hno
  have hfree := mt hno.mpr (by simp)
  have hauth : authServes v.auth k.nonGenuine = true := by
    unfold authServes
    cases ha : v.auth <;> cases hp : k.nonGenuine <;> simp_all
  unfold rankOf
  rw [hi]
  dsimp only
  rw [if_neg (by simp [hc]), hs]
  dsimp only
  rw [if_pos hauth]
  split
  · simp
  · next hv =>
    cases hr : k.refill with
    | refuse => exact absurd (.inl ⟨not_not.mp hv, hr⟩) hfree
    | proceed => simp
    | avoid => simp

/-! ## Level tests and the write-back trigger -/

/-- Of the bay's record only the level flags may differ, and the score of its entry is kept. -/
structure Leveled (b : BayId) (s t : State) : Prop where
  bay : t.bay b = { s.bay b with lowWarned := (t.bay b).lowWarned, countedOut := (t.bay b).countedOut }
  chan : ∀ c, t.chan c = s.chan c
  now : t.now = s.now
  score : ∀ e, s.pinnedBy b = some e → ∃ x, t.pinnedBy b = some x ∧ x.data.score = e.data.score

namespace Leveled

theorem refl (b : BayId) (s : State) : Leveled b s s := ⟨rfl, fun _ => rfl, rfl, fun e h => ⟨e, h, rfl⟩⟩

theorem trans (h : Leveled b s t) (k : Leveled b t u) : Leveled b s u where
  bay := by rw [k.bay, h.bay]
  chan c := (k.chan c).trans (h.chan c)
  now := k.now.trans h.now
  score e he := by
    obtain ⟨x, hx, hs⟩ := h.score e he
    obtain ⟨y, hy, hs'⟩ := k.score x hx
    exact ⟨y, hy, hs'.trans hs⟩

theorem raise (h : Leveled b s t) (n : Notice) : Leveled b s (t.raise n) :=
  h.trans ⟨by simp, by simp, by simp, fun e he => ⟨e, by unfold State.pinnedBy at *; simpa using he, rfl⟩⟩

/-- A level flag of the record. -/
theorem flag (h : Leveled b s t) (f : Bay → Bay) (hf : ∀ v : Bay, f v =
    { v with lowWarned := (f v).lowWarned, countedOut := (f v).countedOut } := by exact fun _ => rfl) :
    Leveled b s (t.modBay b f) :=
  h.trans ⟨by simpa using hf (t.bay b), fun _ => rfl, rfl, fun e he => ⟨e, he, rfl⟩⟩

theorem lowTest (h : Leveled b s t) : Leveled b s (t.lowTest b) := by
  unfold State.lowTest
  dsimp only
  repeat' split
  · exact h
  · exact (h.flag _).raise _
  · exact h

theorem countedOutTest (h : Leveled b s t) : Leveled b s (t.countedOutTest b) := by
  unfold State.countedOutTest
  extract_lets v s1
  have w : Leveled b s s1 := (h.flag _).raise _
  repeat' split
  · next e he =>
    refine w.trans ⟨rfl, fun _ => rfl, rfl, fun x hx => ?_⟩
    have hret : Retold b s1 (s1.writeQuietly e.data.serial
        (Entry.withData (fun d => { d with countedOutSeen := true }))) _ :=
      .of_pinned he (Entry.withData (fun d => { d with countedOutSeen := true })) (fun _ => ⟨rfl, rfl, rfl, rfl⟩) (by simp [State.writeQuietly])
    refine ⟨_, by rw [hret.pinnedBy, hx, Option.map_some], ?_⟩
    split <;> rfl
  · exact w
  · exact h

theorem levelTests (h : Leveled b s t) : Leveled b s (t.levelTests b) := by
  unfold State.levelTests
  split
  · exact h.lowTest.countedOutTest
  · exact h

theorem writeBackTrigger (h : Leveled b s t) (x : Bool) : Leveled b s (t.writeBackTrigger b x) := by
  unfold State.writeBackTrigger
  split
  · refine h.trans ⟨by simp, fun c => ?_, by simp [State.enqueue], fun e he => ⟨e, ?_, rfl⟩⟩
    · simp [State.chan, State.enqueue]
    · unfold State.pinnedBy at *
      simpa [State.enqueue] using he
  · exact h

theorem timer (h : Leveled b s t) (w : s.onTime b) : t.onTime b :=
  w.of_eq h.now (by rw [State.bayConfig, State.bayConfig, h.chan]) (by rw [h.bay]) (by rw [h.bay])

end Leveled

/-! ## The completion (R15) -/

/-- The record as the link-up completes. -/
def State.linkDone (s : State) (b : BayId) : State :=
  s.modBay b (fun v => { v with step := none, observed := none, linkLost := false })

theorem State.bay_linkDone : (s.linkDone b).bay b = { s.bay b with step := none, observed := none, linkLost := false } := by
  simp [State.linkDone]

/-- The link-up is over, with link-lost clear. -/
def Bay.linkOver (v : Bay) : Prop := v.step = none ∧ v.observed = none ∧ v.linkLost = false

/-- The bay record that a refusal gives. -/
def Bay.refuse (v : Bay) (r : RefusalReason) : Bay := { v with state := .refused, refusal := some r, relinkAt := none }

theorem State.completeLink_refused {k : Settings} (hk : s.bayConfig b = some k) {r : RefusalReason}
    (hr : completionRefusal k (s.bay b) = some r) :
    s.completeLink b = ((((((s.linkDone b).modBay b (fun v => v.refuse r)).levelTests b).writeBackTrigger b
      false)).tellChannel b).raise (.bay b) := by
  have hr' : completionRefusal k ((s.linkDone b).bay b) = some r := by rw [State.bay_linkDone]; exact hr
  unfold State.completeLink
  rw [hk]
  dsimp only
  rw [show s.modBay b (fun v => { v with step := none, observed := none, linkLost := false }) = s.linkDone b from rfl, hr']
  rfl

theorem State.completeLink_spent {k : Settings} (hk : s.bayConfig b = some k)
    (hr : completionRefusal k (s.bay b) = none) (hp : (s.bay b).probe = .inkAbsent) :
    s.completeLink b = (((((s.linkDone b).spendBay b).levelTests b).writeBackTrigger b false).tellChannel b).raise
      (.bay b) := by
  have hr' : completionRefusal k ((s.linkDone b).bay b) = none := by rw [State.bay_linkDone]; exact hr
  unfold State.completeLink
  rw [hk]
  dsimp only
  rw [show s.modBay b (fun v => { v with step := none, observed := none, linkLost := false }) = s.linkDone b from rfl, hr',
    if_pos (by rw [State.bay_linkDone]; exact hp)]

theorem State.completeLink_served {k : Settings} (hk : s.bayConfig b = some k)
    (hr : completionRefusal k (s.bay b) = none) (hp : (s.bay b).probe ≠ .inkAbsent) :
    s.completeLink b = (((s.linkDone b).enterService b
      (if (s.linkDone b).isActiveBay b then .active else .ready)).tellChannel b).raise (.bay b) := by
  have hr' : completionRefusal k ((s.linkDone b).bay b) = none := by rw [State.bay_linkDone]; exact hr
  unfold State.completeLink
  rw [hk]
  dsimp only
  rw [show s.modBay b (fun v => { v with step := none, observed := none, linkLost := false }) = s.linkDone b from rfl, hr',
    if_neg (by rw [State.bay_linkDone]; exact hp)]

/-- A completed link-up leaves a bay that is out of service as it placed it. -/
theorem Leveled.placed_out (h : Leveled b s t) (h1 : (s.bay b).state ≠ .ready) (h2 : (s.bay b).state ≠ .active) :
    ((t.tellChannel b).raise (.bay b)).bay b =
      { s.bay b with lowWarned := (t.bay b).lowWarned, countedOut := (t.bay b).countedOut } := by
  rw [State.bay_raise, State.bay_tellChannel_out]
  · exact h.bay
  · rw [h.bay]; exact h1
  · rw [h.bay]; exact h2

theorem State.refused_record {k : Settings} (hk : s.bayConfig b = some k) {r : RefusalReason}
    (hr : completionRefusal k (s.bay b) = some r) :
    ((s.completeLink b).bay b).linkOver ∧ ((s.completeLink b).bay b).state = .refused ∧
      ((s.completeLink b).bay b).refusal = some r := by
  have hbay : ((s.linkDone b).modBay b (fun v => v.refuse r)).bay b =
      Bay.refuse { s.bay b with step := none, observed := none, linkLost := false } r := by
    rw [State.bay_modBay, State.bay_linkDone]
  have hlevel := ((Leveled.refl b ((s.linkDone b).modBay b (fun v => v.refuse r))).levelTests).writeBackTrigger false
  rw [State.completeLink_refused hk hr, hlevel.placed_out (by rw [hbay]; simp [Bay.refuse]) (by rw [hbay]; simp [Bay.refuse]),
    hbay]
  exact ⟨⟨rfl, rfl, rfl⟩, rfl, rfl⟩

theorem State.spent_record {k : Settings} (hk : s.bayConfig b = some k)
    (hr : completionRefusal k (s.bay b) = none) (hp : (s.bay b).probe = .inkAbsent) :
    ((s.completeLink b).bay b).linkOver ∧ ((s.completeLink b).bay b).state = .spent ∧
      ((s.completeLink b).bay b).probeEmptySeen = true := by
  have hbay := State.bay_spendBay (s := s.linkDone b) b
  have hlevel := ((Leveled.refl b ((s.linkDone b).spendBay b)).levelTests).writeBackTrigger false
  rw [State.completeLink_spent hk hr hp, hlevel.placed_out (by rw [hbay]; simp) (by rw [hbay]; simp), hbay,
    State.bay_linkDone]
  exact ⟨⟨rfl, rfl, rfl⟩, rfl, rfl⟩

/-! ## Entry to service (R15, R82, R125) -/

/-- The record in service, with its write-back timer started. -/
def State.inService (s : State) (b : BayId) (st : BayState) : State :=
  ((s.modBay b (fun v => v.serve st)).startWriteBack b).levelTests b

/-- What the bay's entry to service leaves, before the return of ink is examined. -/
theorem State.inService_spec {k : Settings} (hk : s.bayConfig b = some k) (st : BayState) :
    (∃ v : Bay, (s.inService b st).bay b = { v with
        lowWarned := ((s.inService b st).bay b).lowWarned, countedOut := ((s.inService b st).bay b).countedOut } ∧
      v = { (s.bay b).serve st with writeBackAt := some (s.now + k.intervalS * 1000000) }) ∧
      (s.inService b st).onTime b ∧ (∀ c, (s.inService b st).chan c = s.chan c) ∧
      ∀ e, s.pinnedBy b = some e → ∃ x, (s.inService b st).pinnedBy b = some x ∧ x.data.score = e.data.score := by
  have hstart : (s.modBay b (fun v => v.serve st)).startWriteBack b =
      (s.modBay b (fun v => v.serve st)).modBay b (fun v => { v with writeBackAt := some (s.now + k.intervalS * 1000000) }) :=
    State.startWriteBack_of hk
  have hlevel : Leveled b ((s.modBay b (fun v => v.serve st)).startWriteBack b) (s.inService b st) :=
    (Leveled.refl b _).levelTests
  rw [hstart] at hlevel
  have hbay : ((s.modBay b (fun v => v.serve st)).modBay b (fun v =>
      { v with writeBackAt := some (s.now + k.intervalS * 1000000) })).bay b =
      { (s.bay b).serve st with writeBackAt := some (s.now + k.intervalS * 1000000) } := by simp
  refine ⟨⟨_, hlevel.bay, hbay⟩, hlevel.timer ⟨k, hk, by rw [hbay]; rfl, by rw [hbay]; rfl⟩, hlevel.chan, hlevel.score⟩

end Sys2Proof.Machine

/-! Settles the end of a link-up: its settling after a CHALLENGE that matches, and the bay's place after its MARK. -/

namespace Sys2Proof.Machine

variable {s t u : State} {b : BayId} {i : Identity} {o : Observed} {k : Settings}

/-! ## A bay that is served -/

/-- The link-up is over, the timer runs, and a return that was due on the record `v` is scored on the entry `p`. -/
structure InService (b : BayId) (v : Bay) (p : Option Entry) (s : State) : Prop where
  ended : (s.bay b).linkOver
  timer : s.onTime b
  returned : v.returnDue = true → (s.bay b).probeEmptySeen = false ∧
    ∀ y, p = some y → (s.bay b).score = min 255 (y.data.score + 16)

theorem InService.placed {v : Bay} {p : Option Entry} (h : InService b v p s) (w : Placed b s t) : InService b v p t := by
  refine ⟨?_, w.timer h.timer, fun n => ?_⟩
  · rw [w.bay]
    exact h.ended
  · rw [w.probeEmptySeen, w.score]
    exact h.returned n

theorem InService.leveled {v : Bay} {p : Option Entry} (h : InService b v p s) (w : Leveled b s t) : InService b v p t := by
  refine ⟨?_, w.timer h.timer, fun n => ?_⟩
  · rw [w.bay]
    exact h.ended
  · rw [w.bay]
    exact h.returned n

/-- A return of ink that is due is scored as the bay enters service (R125). -/
theorem InService.probeReturn {v : Bay} {p : Option Entry} (hover : (s.bay b).linkOver) (htimer : s.onTime b)
    (hne : (s.bay b).state ≠ .refused)
    (hscore : ∀ y, p = some y → ∃ x, s.pinnedBy b = some x ∧ x.data.score = y.data.score) :
    InService b v p (s.probeReturn b) := by
  cases he : s.pinnedBy b with
  | none =>
    have hquiet : s.probeReturn b = s.modBay b (fun v => { v with probeEmptySeen := false }) :=
      State.scoreWith_of_none (s := s.modBay b (fun v => { v with probeEmptySeen := false })) he _ _ _
    rw [hquiet]
    refine ⟨by simpa [Bay.linkOver] using hover, htimer.modBay _ _ rfl rfl, fun _ => ⟨by simp, fun y hy => ?_⟩⟩
    obtain ⟨x, hx, -⟩ := hscore y hy
    rw [he] at hx
    cases hx
  | some e =>
    obtain ⟨x, hx⟩ := ReturnScored.of_pinned he hne
    obtain ⟨h1, h2, h3⟩ := hover
    obtain ⟨k1, k2, k3⟩ := hx.link
    obtain ⟨hsc, hflag, -⟩ := hx.record
    refine ⟨⟨k1.trans h1, k2.trans h2, k3.trans h3⟩, hx.timer htimer, fun _ => ⟨hflag, fun y hy => ?_⟩⟩
    obtain ⟨z, hz, hsame⟩ := hscore y hy
    obtain rfl : e = z := Option.some.inj (he.symm.trans hz)
    rw [hsc, hsame]

theorem completionRefusal_none (hi : (s.bay b).identity = some i) (h : completionRefusal k (s.bay b) = none) :
    i.colour = k.colour ∧ refusalDue k (s.bay b) = none := by
  unfold completionRefusal at h
  rw [hi] at h
  dsimp only at h
  split at h
  · cases h
  · next hc => exact ⟨not_not.mp hc, h⟩

/-- A link-up that no refusal ends, with ink not seen absent, puts the bay in service (R15). -/
theorem State.completeLink_serves (hk : s.bayConfig b = some k) (hi : (s.bay b).identity = some i)
    (hr : completionRefusal k (s.bay b) = none) (hp : (s.bay b).probe ≠ .inkAbsent) :
    InService b (s.bay b) (s.pinnedBy b) (s.completeLink b) ∧
      ((s.bay b).returnDue = false → (s.bay b).auth ≠ .none → (s.bay b).auth ≠ .challenging →
        (s.completeLink b).feeds b) := by
  rw [State.completeLink_served hk hr hp]
  set st : BayState := if (s.linkDone b).isActiveBay b then .active else .ready with hst
  have hserving : st = .ready ∨ st = .active := by
    rw [hst]
    split <;> simp
  obtain ⟨⟨v, hq, hv⟩, htimer, hchan, hscore⟩ := State.inService_spec (s := s.linkDone b) (b := b) hk st
  rw [State.bay_linkDone] at hv
  have hchan' : ∀ c, ((s.linkDone b).inService b st).chan c = s.chan c := hchan
  have henter : (s.linkDone b).enterService b st =
      (if (((s.linkDone b).inService b st).bay b).returnDue then ((s.linkDone b).inService b st).probeReturn b
        else (s.linkDone b).inService b st).writeBackTrigger b false := rfl
  rw [henter]
  have hpinned : ∀ y, s.pinnedBy b = some y →
      ∃ x, ((s.linkDone b).inService b st).pinnedBy b = some x ∧ x.data.score = y.data.score := hscore
  generalize (s.linkDone b).inService b st = q at *
  have hdue : (q.bay b).returnDue = (s.bay b).returnDue := by rw [hq, hv]; rfl
  have hover : (q.bay b).linkOver := by rw [hq, hv]; exact ⟨rfl, rfl, rfl⟩
  have hstate : (q.bay b).state = st := by rw [hq, hv]; rfl
  have hend {r : State} (h : InService b (s.bay b) (s.pinnedBy b) r) :
      InService b (s.bay b) (s.pinnedBy b) (((r.writeBackTrigger b false).tellChannel b).raise (.bay b)) :=
    (h.leveled ((Leveled.refl b r).writeBackTrigger false)).placed (((Placed.refl b _).tellChannel).raise _)
  rw [hdue]
  split
  · next hd =>
    refine ⟨hend (.probeReturn hover htimer ?_ hpinned), fun n => absurd hd (by simp [n])⟩
    rw [hstate]
    rcases hserving with h | h <;> simp [h]
  · next hd =>
    refine ⟨hend ⟨hover, htimer, fun n => absurd n hd⟩, fun _ h1 h2 => ?_⟩
    have hl := (Leveled.refl b q).writeBackTrigger false
    generalize q.writeBackTrigger b false = r at hl ⊢
    have hrstate : (r.bay b).state = st := by rw [hl.bay]; exact hstate
    have hrchan : r.chan (bayChan b) = s.chan (bayChan b) := (hl.chan _).trans (hchan' _)
    have hactive : st = .active ↔ (s.chan (bayChan b)).active = some (baySide b) := by
      have : (s.linkDone b).isActiveBay b = true ↔ (s.chan (bayChan b)).active = some (baySide b) := by
        exact beq_iff_eq
      rw [hst, ← this]
      split
      · next h => exact iff_of_true rfl h
      · next h => exact iff_of_false (by decide) h
    have hfeeds : r.feeds b := by
      unfold State.feeds
      rw [hrstate, hrchan]
      exact ⟨hserving, hactive⟩
    obtain ⟨hcolour, hfree⟩ := completionRefusal_none hi hr
    have hrank : (r.bay b).state = .active → r.rank (bayChan b) (baySide b) ≠ .none := fun n => by
      have hcfg : (r.chan (bayChan b)).config = some k := by rw [hrchan]; exact hk
      unfold State.rank
      rw [sideBay_bayChan, hcfg]
      refine rankOf_ne_none (i := i) ?_ hcolour n ?_ ?_ ?_ <;> rw [hl.bay, hq, hv]
      · exact hi
      · exact hfree
      · exact h1
      · exact h2
    unfold State.feeds
    rw [State.bay_raise, State.chan_raise]
    exact hfeeds.tellChannel hrank

/-! ## The report of the MARK -/

theorem State.actOn_setupFailed {e : BusEntry} {poll : Bool} {n : Nonce} (hcls : e.cls = .setup) (hop : e.op ≠ .advance) :
    s.actOn e poll n .failed = ((s.takenOut e .failed).report e .failed n []).releaseSetup e.bay := by
  unfold State.actOn State.endTransaction State.takenOut
  simp only [hcls, hop, false_and, if_false, if_true]

/-- The end of a MARK as the link-up's report finds it (R14, R130). -/
def State.marked (s : State) (b : BayId) (o : BusOutcome) : State := if o = .ok then s.markPinned b else s

theorem State.markPinned_spec (b : BayId) : Recorded s (s.markPinned b) ∧
    ∀ y, s.pinnedBy b = some y → ∃ x, (s.markPinned b).pinnedBy b = some x ∧ x.slot = y.slot ∧
      x.data.serial = y.data.serial ∧ x.data.marked = true ∧ x.data.score = y.data.score := by
  unfold State.markPinned
  split
  · next e he =>
    refine ⟨(Recorded.refl s).writeEntry _ _, fun y hy => ?_⟩
    obtain rfl : e = y := Option.some.inj (he.symm.trans hy)
    refine ⟨(Entry.withData (fun d => { d with marked := true }) e).touch s.hist.writeOrder, ?_, rfl, rfl, rfl, rfl⟩
    unfold State.pinnedBy at he ⊢
    unfold State.setMarked State.writeEntry
    dsimp only
    rw [find_map _ _ (fun y => by split <;> rfl), he, Option.map_some, if_pos (by simp)]
  · next he =>
    refine ⟨.refl s, fun y hy => ?_⟩
    rw [he] at hy
    cases hy

theorem State.marked_spec (b : BayId) (o : BusOutcome) : Recorded s (s.marked b o) ∧
    ∀ y, s.pinnedBy b = some y → ∃ x, (s.marked b o).pinnedBy b = some x ∧ x.slot = y.slot ∧
      x.data.serial = y.data.serial ∧ x.data.marked = (y.data.marked || decide (o = .ok)) ∧
      x.data.score = y.data.score := by
  unfold State.marked
  split
  · next ho =>
    obtain ⟨h1, h2⟩ := s.markPinned_spec b
    refine ⟨h1, fun y hy => ?_⟩
    obtain ⟨x, hx, hslot, hserial, hmarked, hscore⟩ := h2 y hy
    exact ⟨x, hx, hslot, hserial, by simp [hmarked, ho], hscore⟩
  · next ho => exact ⟨.refl s, fun y hy => ⟨y, hy, rfl, rfl, by simp [ho], rfl⟩⟩

theorem State.report_mark {e : BusEntry} (hop : e.op = .mark) (he : e.bay = b) (hl : e.linkStep.isSome = true)
    (hstep : (s.bay b).step = some .mark) {o : BusOutcome} (ho : o ≠ .noReply) (n : Nonce) (d : List Byte) :
    s.report e o n d = (s.marked b o).completeLink b := by
  subst he
  obtain ⟨l, hl⟩ := Option.isSome_iff_exists.mp hl
  have hmark : ((s.marked e.bay o).bay e.bay).step = some .mark := by
    rw [(State.marked_spec e.bay o).1.bay]
    exact hstep
  unfold State.report
  rw [hop]
  dsimp only
  unfold State.reportMark
  rw [hl]
  dsimp only
  rw [show (if o = .ok then s.markPinned e.bay else s) = s.marked e.bay o from rfl, if_pos hmark, if_neg ho]

/-- The release of the SETUP entry leaves the record but for its challenge exchange and its waiting requests (R35). -/
theorem State.releaseSetup_bay (b : BayId) :
    (s.releaseSetup b).bay b = { s.bay b with
      ctx := ((s.releaseSetup b).bay b).ctx, waitRechallenge := ((s.releaseSetup b).bay b).waitRechallenge
      waitMark := ((s.releaseSetup b).bay b).waitMark } ∧ ∀ c, (s.releaseSetup b).chan c = s.chan c := by
  unfold State.releaseSetup
  dsimp only
  repeat' split
  all_goals
    refine ⟨by simp [State.beginExchange], fun c => ?_⟩
    simp [State.beginExchange, State.chan, State.enqueue, State.modBay]

end Sys2Proof.Machine

/-! The end of a link-up, from the reply that decides it to the bay's place (R13, R14, R15, R87, R88, R136). -/

namespace Sys2Proof.Machine

variable {s t u : State} {b : BayId} {i : Identity} {o : Observed} {k : Settings}

/-! ## The link-up is over -/

theorem State.told_completeLink (hk : s.bayConfig b = some k) : Told (s.completeLink b).link (.bay b) := by
  unfold State.completeLink
  rw [hk]
  exact State.told_raise (.bay b)

theorem State.linkOver_completeLink (hk : s.bayConfig b = some k) (hi : (s.bay b).identity = some i) :
    ((s.completeLink b).bay b).linkOver := by
  cases hr : completionRefusal k (s.bay b) with
  | some r => exact (State.refused_record hk hr).1
  | none =>
    by_cases hp : (s.bay b).probe = .inkAbsent
    · exact (State.spent_record hk hr hp).1
    · exact (State.completeLink_serves hk hi hr hp).1.ended

/-- The completed bay's entry has the flag that its MARK's end left (R130). -/
theorem State.completeLink_entry {y : Entry} (hy : s.pinnedBy b = some y) :
    ∃ z ∈ ((s.completeLink b).releaseSetup b).hist.table, z.slot = y.slot ∧ z.data.serial = y.data.serial ∧
      z.data.marked = y.data.marked := by
  obtain ⟨f, hf⟩ := ((Carried.refl b s).completeLink.tested (Tested.refl b _).releaseSetup).retold
  obtain ⟨-, hserial, hslot, hmarked⟩ := hf.key y
  refine ⟨f y, ?_, hslot, hserial, hmarked⟩
  rw [hf.table]
  exact List.mem_map.mpr ⟨y, (State.pinnedBy_mem hy).1, rfl⟩

/-- The refusals of a completion, in their order (R15). -/
theorem completionRefusal_eq {v : Bay} (hi : v.identity = some i) : completionRefusal k v =
    if i.colour ≠ k.colour then some .wrongColour
    else if v.auth = .rejected ∧ k.nonGenuine = .refuse then some .rejected
    else if v.auth = .unverifiable ∧ k.nonGenuine = .refuse then some .unverifiable
    else if v.verdict = .refilled ∧ k.refill = .refuse then some .refilled
    else none := by
  unfold completionRefusal
  rw [hi]
  rfl

/-- What the two replies that end a MARK lead to (R29, R42). -/
theorem State.markEnd {e : BusEntry} (hcls : e.cls = .setup) (hop : e.op = .mark) (n : Nonce) {kind : Nat}
    (hkind : kind = 9 ∨ kind = 12) :
    ∃ r o, ReplyKind.ofCode kind = some r ∧ replyLength e.op true r = some 4 ∧ o ≠ .noReply ∧
      (decide (o = BusOutcome.ok) = (kind == 9)) ∧
      ∀ w : State, w.actOn e true n (r.attempt []) = ((w.takenOut e o).report e o n []).releaseSetup e.bay := by
  have hne : e.op ≠ .advance := by rw [hop]; decide
  rcases hkind with rfl | rfl
  · exact ⟨.done, .ok, rfl, by rw [hop]; rfl, by decide, rfl,
      fun w => State.actOn_setupDone hcls hne (by rw [hop]; intro h; cases h)⟩
  · exact ⟨.failed, .failed, rfl, by rw [hop]; rfl, by decide, rfl, fun w => State.actOn_setupFailed hcls hne⟩

/-- Settles O32: a matched response goes on to the lookup and settles; the MARK's end places the bay by the first of the
cases of R15 that applies, and the release of the SETUP entry that follows leaves the place. -/
theorem linkUpEndPlacesTheBay : Obligations.LinkUpEndPlacesTheBay := by
  refine ⟨?_, ?_⟩
  · intro s b x e i o k hopen hop hlink hstep hstate hi ho hadv hkey hmeter _ halone hblock
    obtain ⟨-, -, -, -, -, -, he, hcls⟩ := id hopen
    obtain ⟨at', hexec, hend, -⟩ := exec_setupReply (kind := 9) (r := .done) (o := .ok)
      (d := leBytes 8 (expectedResponse k x.nonce o.counter).toNat)
      (d' := leBytes 8 (expectedResponse k x.nonce o.counter).toNat) hopen hblock (.inr (.inl hop)) (by decide) rfl
      (by rw [hop, leBytes_length]; rfl)
      (fun w => by
        rw [ReplyKind.attempt, State.actOn_setupDone hcls (by rw [hop]; decide) (by rw [hop]; intro k; cases k), he])
    rw [State.report_challenge hop he] at hexec hend
    obtain ⟨hstore, hchal, helse⟩ := hend.conclude
    have hbay := State.bay_setupTaken (s := s) he at' .ok
    have hhist : (s.setupTaken b at' e .ok).hist = s.hist := State.setupTaken_hist _ _ _
    have hmeter' := State.busEntry_setupTaken_ne (s := s) he hcls at' .ok (k := .meter) (by decide)
    generalize s.setupTaken b at' e .ok = a at *
    have hfit : (a.bay b).fits x.nonce (expectedResponse k x.nonce o.counter) o.counter :=
      ⟨k, by rw [hbay]; exact hkey, rfl⟩
    rw [if_pos hlink, State.linkResponse_of_step (by rw [hbay]; exact hstep),
      State.linkResponse_match (by rw [hbay]; exact hadv) (o := o) (by rw [hbay]; exact ho) hfit] at hexec hstore hchal helse
    have hready : Ready4 b i o a := by
      refine ⟨?_, ?_, ?_, ?_, ?_, hmeter'.trans hmeter⟩
      · rw [hbay]; exact hstate
      · rw [hbay]; exact hi
      · rw [hbay]; exact ho
      · rw [hbay]; exact hadv
      · unfold State.pinnedElsewhere
        rw [hhist]
        exact halone
    have howing : (a.bay b).owing = (s.bay b).owing := by rw [hbay]
    refine ⟨_, hexec, hstore, hchal, helse, fun y hy => ?_, fun hnone hslot => ?_⟩
    · have hset := hready.settled_found (y := y) (by rw [← hy, State.entryOf?, State.entryOf?, hhist])
      obtain ⟨h1, h2, h3⟩ := hset.figures
      rw [State.bay_conclude, State.conclude_hist_table]
      exact ⟨h1, h2, by rw [h3, howing, settleGrowth_eq], hset.entry⟩
    · have hset := hready.settled_created (by rw [← hnone, State.entryOf?, State.entryOf?, hhist])
        (by rw [← hslot]; unfold State.freeSlot State.slotTaken State.removingSlot; rw [hhist])
      obtain ⟨h1, h2, h3⟩ := hset.figures
      obtain ⟨z, hz, hserial, hpin, hconf, hdoubt, -⟩ := hset.entry
      rw [State.bay_conclude, State.conclude_hist_table]
      exact ⟨h1, h2, by rw [h3, howing], z, hz, hserial, hpin, hconf, hdoubt⟩
  · intro s b x e i k kind hopen hop hlink hstep hkind hi hk hblock
    obtain ⟨-, -, -, -, -, -, he, hcls⟩ := id hopen
    obtain ⟨r, o, hr, hlen, ho, hmarks, hact⟩ := State.markEnd hcls hop x.nonce hkind
    obtain ⟨at', hexec, hend, -⟩ := exec_setupReply (kind := kind) (r := r) (o := o) (d := []) (d' := []) hopen hblock
      (.inr (.inr hop)) (by omega) hr hlen (fun w => by rw [hact, he])
    have hbay := State.bay_setupTaken (s := s) he at' o
    rw [State.report_mark hop he hlink (by rw [hbay]; exact hstep) ho] at hexec hend
    obtain ⟨hstore, hchal, helse⟩ := hend.conclude
    have hhist : (s.setupTaken b at' e o).hist = s.hist := State.setupTaken_hist _ _ _
    have hconf : (s.setupTaken b at' e o).bayConfig b = s.bayConfig b := by
      rw [State.bayConfig, State.bayConfig, State.chan, State.setupTaken, State.takenOut_chans, State.ended_chans]
      rfl
    obtain ⟨hrec, hmarked⟩ := (s.setupTaken b at' e o).marked_spec b o
    have hpbay := hrec.bay b
    rw [hbay] at hpbay
    have hpconf : ((s.setupTaken b at' e o).marked b o).bayConfig b = some k := by
      rw [State.bayConfig, hrec.chan]
      exact hconf.trans hk
    have hpin : ∀ y, s.pinnedBy b = some y → ∃ z, ((s.setupTaken b at' e o).marked b o).pinnedBy b = some z ∧
        z.slot = y.slot ∧ z.data.serial = y.data.serial ∧ z.data.marked = (y.data.marked || kind == 9) ∧
        z.data.score = y.data.score := fun y hy => by
      rw [← hmarks]
      refine hmarked y ?_
      rw [← hy, State.pinnedBy, State.pinnedBy, hhist]
    generalize (s.setupTaken b at' e o).marked b o = p at *
    have hpi : (p.bay b).identity = some i := by rw [hpbay]; exact hi
    have hnow : ((p.completeLink b).releaseSetup b).now = (p.completeLink b).now := ((Within.refl _).releaseSetup b).now
    have hwconf : (p.completeLink b).bayConfig b = some k := (((Within.refl p).completeLink b).config _).trans hpconf
    obtain ⟨hrelease, hchan⟩ := (p.completeLink b).releaseSetup_bay b
    obtain ⟨h1, h2, h3⟩ := State.linkOver_completeLink hpconf hpi
    have htold := ((Acts.refl (b := b)).releaseSetup).around.told _ (State.told_completeLink hpconf)
    have hrefusal : completionRefusal k (p.bay b) = _ := (completionRefusal_eq hpi).trans (by rw [hpbay])
    refine ⟨_, hexec, hstore, hchal, helse, ?_⟩
    rw [State.bay_conclude, State.conclude_hist_table, State.conclude_now, State.chan_conclude, hchan, hnow, hrelease]
    refine ⟨h1, h2, h3, State.told_conclude htold hend.tx, fun y hy => ?_, ?_⟩
    · obtain ⟨x, hx, hslot, hserial, hmark, -⟩ := hpin y hy
      obtain ⟨z, hz, hslot', hserial', hmark'⟩ := State.completeLink_entry hx
      exact ⟨z, hz, hslot'.trans hslot, hserial'.trans hserial, hmark'.trans hmark⟩
    · dsimp only at hrefusal ⊢
      have hrefused {r : RefusalReason} (h : completionRefusal k (p.bay b) = some r) :=
        (State.refused_record hpconf h).2
      split
      · next hc => exact hrefused (hrefusal.trans (if_pos hc))
      next hc =>
      rw [if_neg hc] at hrefusal
      split
      · next hc => exact hrefused (hrefusal.trans (if_pos hc))
      next hc =>
      rw [if_neg hc] at hrefusal
      split
      · next hc => exact hrefused (hrefusal.trans (if_pos hc))
      next hc =>
      rw [if_neg hc] at hrefusal
      split
      · next hc => exact hrefused (hrefusal.trans (if_pos hc))
      next hc =>
      rw [if_neg hc] at hrefusal
      split
      · next hp => exact (State.spent_record hpconf hrefusal (by rw [hpbay]; exact hp)).2
      next hp =>
      obtain ⟨hserves, hfeeds⟩ := State.completeLink_serves hpconf hpi hrefusal (by rw [hpbay]; exact hp)
      have hdue : (p.bay b).returnDue = ((s.bay b).probe == .inkPresent && (s.bay b).probeEmptySeen) := by
        rw [hpbay]
        rfl
      obtain ⟨k', hk', htimer, hrelink⟩ := hserves.timer
      obtain rfl : k = k' := Option.some.inj (hwconf.symm.trans hk')
      refine ⟨htimer, hrelink, fun hpr hpe => ?_, fun hno h1 h2 => ?_⟩
      · obtain ⟨hflag, hscore⟩ := hserves.returned (by rw [hdue]; simp [hpr, hpe])
        refine ⟨hflag, fun y hy => ?_⟩
        obtain ⟨x, hx, -, -, -, hsame⟩ := hpin y hy
        rw [hscore x hx, hsame]
      · exact hfeeds (by rw [hdue]; simpa using hno) (by rw [hpbay]; exact h1) (by rw [hpbay]; exact h2)

end Sys2Proof.Machine
